-- ==== Sys2Proof/Word.lean ====
section
/-! DEFINITION. The two word types of the machine (00_scope R7: every value is unsigned). -/

namespace Sys2Proof

/-- `u8`: a general register, an immediate byte, a memory byte, a timer. -/
abbrev Byte := BitVec 8

/-- `u16`: an opcode, the index register, the program counter, a stack entry. -/
abbrev Word := BitVec 16

/-- The index of a general register, V0 to VF (10_state R10). -/
abbrev RegIdx := Fin 16

end Sys2Proof
end

