-- ==== Sys2Proof/Syntax.lean ====
section
/-! DEFINITION. The instructions: one constructor per row of the opcode map (30_encoding R66), in the table's order.
Register indices `x`, `y` and the nibble `n` are `Fin 16`; `kk` is a byte; `nnn` is a 12-bit address (R61). -/

namespace Sys2Proof

/-- The 40 families and the ILLEGAL sentinel. -/
inductive Instr where
  | cls
  | ret
  | jpAddr   (nnn : BitVec 12)
  | callAddr (nnn : BitVec 12)
  | seImm    (x : RegIdx) (kk : Byte)
  | sneImm   (x : RegIdx) (kk : Byte)
  | seReg    (x y : RegIdx)
  | ldImm    (x : RegIdx) (kk : Byte)
  | addImm   (x : RegIdx) (kk : Byte)
  | ldReg    (x y : RegIdx)
  | orReg    (x y : RegIdx)
  | andReg   (x y : RegIdx)
  | xorReg   (x y : RegIdx)
  | addReg   (x y : RegIdx)
  | subReg   (x y : RegIdx)
  | shrReg   (x y : RegIdx)
  | subnReg  (x y : RegIdx)
  | shlReg   (x y : RegIdx)
  | sneReg   (x y : RegIdx)
  | ldIAddr  (nnn : BitVec 12)
  | jpV0     (nnn : BitVec 12)
  | rnd      (x : RegIdx) (kk : Byte)
  | drw      (x y : RegIdx) (n : Fin 16)
  | skp      (x : RegIdx)
  | sknp     (x : RegIdx)
  | ldVxDT   (x : RegIdx)
  | ldVxK    (x : RegIdx)
  | ldDTVx   (x : RegIdx)
  | ldSTVx   (x : RegIdx)
  | addIVx   (x : RegIdx)
  | ldFVx    (x : RegIdx)
  | ldBVx    (x : RegIdx)
  | ldMemVx  (x : RegIdx)
  | ldVxMem  (x : RegIdx)
  | dsv      (n : Fin 16)
  | scr
  | scl
  | ext
  | lrs
  | hrs
  /-- The sentinel; it carries the whole opcode, which its diagnostic reports (45 R187). -/
  | illegal  (op : Word)
  deriving DecidableEq, Repr

end Sys2Proof
end

