-- ==== Sys2Proof/WellFormed.lean ====
section
/-! DEFINITION. Which instruction terms stand for an opcode. Every operand field fits its type, so the one check is the
sentinel's: `illegal op` is well formed only for an opcode of the illegal space. The legal values are written here from
the table of 30_encoding R67 (by family nibble), apart from the decoder's patterns of R66. -/

namespace Sys2Proof

/-- The legal values of 30_encoding R67, by family nibble. -/
def isLegalWord (op : Word) : Bool :=
  let w := op.toNat
  let low := w % 256
  match w / 4096 with
  | 0 => (0x00C0 ≤ w && w ≤ 0x00CF) || w == 0x00E0 || w == 0x00EE || (0x00FB ≤ w && w ≤ 0x00FF)
  | 5 => w % 16 == 0
  | 8 => w % 16 ≤ 7 || w % 16 == 0xE
  | 9 => w % 16 == 0
  | 0xE => low == 0x9E || low == 0xA1
  | 0xF => [0x07, 0x0A, 0x15, 0x18, 0x1E, 0x29, 0x33, 0x55, 0x65].contains low
  | _ => true

/-- The term stands for an opcode. -/
def Instr.wf : Instr → Bool
  | .illegal op => !isLegalWord op
  | _ => true

end Sys2Proof
end

