-- ==== Sys2Proof/Decode.lean ====
section
/-! DEFINITION. The decoder (30_encoding R64 to R71): the fields of R61, the opcode map of R66 as a list of patterns, the
lookup, the byte-level decoder, the encoder written from the same map, and the assembler text of R72. -/

namespace Sys2Proof

/-- `x = op[11:8]`, 30_encoding R61. -/
def fieldX (op : Word) : RegIdx := (op.extractLsb' 8 4).toFin

/-- `y = op[7:4]`, 30_encoding R61. -/
def fieldY (op : Word) : RegIdx := (op.extractLsb' 4 4).toFin

/-- `n = op[3:0]`, 30_encoding R61. -/
def fieldN (op : Word) : Fin 16 := (op.extractLsb' 0 4).toFin

/-- `kk = op[7:0]`, 30_encoding R61. -/
def fieldKK (op : Word) : Byte := op.extractLsb' 0 8

/-- `nnn = op[11:0]`, 30_encoding R61. -/
def fieldNNN (op : Word) : BitVec 12 := op.extractLsb' 0 12

/-- One row of the opcode map: its mnemonic (as spec/opcode_table.json spells it), the fixed bits, which bits are fixed
(mask bit 1 = fixed), and how the operands are bound (`Update`, 30_encoding R71). -/
structure OpcodeRow where
  mnemonic : String
  fixed    : Word
  mask     : Word
  bind     : Word → Instr

/-- The row's pattern matches the opcode: `op AND mask = match`, 30_encoding R66. -/
def OpcodeRow.matches (r : OpcodeRow) (op : Word) : Bool := op &&& r.mask == r.fixed

/-- Rows 1 to 9 of 30_encoding R66. -/
def opcodeRows1 : List OpcodeRow :=
  [ ⟨"CLS",       0x00E0#16, 0xFFFF#16, fun _ => .cls⟩,
    ⟨"RET",       0x00EE#16, 0xFFFF#16, fun _ => .ret⟩,
    ⟨"JP_addr",   0x1000#16, 0xF000#16, fun op => .jpAddr (fieldNNN op)⟩,
    ⟨"CALL_addr", 0x2000#16, 0xF000#16, fun op => .callAddr (fieldNNN op)⟩,
    ⟨"SE_Vx_kk",  0x3000#16, 0xF000#16, fun op => .seImm (fieldX op) (fieldKK op)⟩,
    ⟨"SNE_Vx_kk", 0x4000#16, 0xF000#16, fun op => .sneImm (fieldX op) (fieldKK op)⟩,
    ⟨"SE_Vx_Vy",  0x5000#16, 0xF00F#16, fun op => .seReg (fieldX op) (fieldY op)⟩,
    ⟨"LD_Vx_kk",  0x6000#16, 0xF000#16, fun op => .ldImm (fieldX op) (fieldKK op)⟩,
    ⟨"ADD_Vx_kk", 0x7000#16, 0xF000#16, fun op => .addImm (fieldX op) (fieldKK op)⟩ ]

/-- Rows 10 to 19 of 30_encoding R66. -/
def opcodeRows2 : List OpcodeRow :=
  [ ⟨"LD_Vx_Vy",   0x8000#16, 0xF00F#16, fun op => .ldReg (fieldX op) (fieldY op)⟩,
    ⟨"OR_Vx_Vy",   0x8001#16, 0xF00F#16, fun op => .orReg (fieldX op) (fieldY op)⟩,
    ⟨"AND_Vx_Vy",  0x8002#16, 0xF00F#16, fun op => .andReg (fieldX op) (fieldY op)⟩,
    ⟨"XOR_Vx_Vy",  0x8003#16, 0xF00F#16, fun op => .xorReg (fieldX op) (fieldY op)⟩,
    ⟨"ADD_Vx_Vy",  0x8004#16, 0xF00F#16, fun op => .addReg (fieldX op) (fieldY op)⟩,
    ⟨"SUB_Vx_Vy",  0x8005#16, 0xF00F#16, fun op => .subReg (fieldX op) (fieldY op)⟩,
    ⟨"SHR_Vx_Vy",  0x8006#16, 0xF00F#16, fun op => .shrReg (fieldX op) (fieldY op)⟩,
    ⟨"SUBN_Vx_Vy", 0x8007#16, 0xF00F#16, fun op => .subnReg (fieldX op) (fieldY op)⟩,
    ⟨"SHL_Vx_Vy",  0x800E#16, 0xF00F#16, fun op => .shlReg (fieldX op) (fieldY op)⟩,
    ⟨"SNE_Vx_Vy",  0x9000#16, 0xF00F#16, fun op => .sneReg (fieldX op) (fieldY op)⟩ ]

/-- Rows 20 to 29 of 30_encoding R66. -/
def opcodeRows3 : List OpcodeRow :=
  [ ⟨"LD_I_addr",   0xA000#16, 0xF000#16, fun op => .ldIAddr (fieldNNN op)⟩,
    ⟨"JP_V0_addr",  0xB000#16, 0xF000#16, fun op => .jpV0 (fieldNNN op)⟩,
    ⟨"RND_Vx_kk",   0xC000#16, 0xF000#16, fun op => .rnd (fieldX op) (fieldKK op)⟩,
    ⟨"DRW_Vx_Vy_n", 0xD000#16, 0xF000#16, fun op => .drw (fieldX op) (fieldY op) (fieldN op)⟩,
    ⟨"SKP_Vx",      0xE09E#16, 0xF0FF#16, fun op => .skp (fieldX op)⟩,
    ⟨"SKNP_Vx",     0xE0A1#16, 0xF0FF#16, fun op => .sknp (fieldX op)⟩,
    ⟨"LD_Vx_DT",    0xF007#16, 0xF0FF#16, fun op => .ldVxDT (fieldX op)⟩,
    ⟨"LD_Vx_K",     0xF00A#16, 0xF0FF#16, fun op => .ldVxK (fieldX op)⟩,
    ⟨"LD_DT_Vx",    0xF015#16, 0xF0FF#16, fun op => .ldDTVx (fieldX op)⟩,
    ⟨"LD_ST_Vx",    0xF018#16, 0xF0FF#16, fun op => .ldSTVx (fieldX op)⟩ ]

/-- Rows 30 to 40 of 30_encoding R66. -/
def opcodeRows4 : List OpcodeRow :=
  [ ⟨"ADD_I_Vx",  0xF01E#16, 0xF0FF#16, fun op => .addIVx (fieldX op)⟩,
    ⟨"LD_F_Vx",   0xF029#16, 0xF0FF#16, fun op => .ldFVx (fieldX op)⟩,
    ⟨"LD_B_Vx",   0xF033#16, 0xF0FF#16, fun op => .ldBVx (fieldX op)⟩,
    ⟨"LD__I__Vx", 0xF055#16, 0xF0FF#16, fun op => .ldMemVx (fieldX op)⟩,
    ⟨"LD_Vx__I",  0xF065#16, 0xF0FF#16, fun op => .ldVxMem (fieldX op)⟩,
    ⟨"DSV_n",     0x00C0#16, 0xFFF0#16, fun op => .dsv (fieldN op)⟩,
    ⟨"SCR",       0x00FB#16, 0xFFFF#16, fun _ => .scr⟩,
    ⟨"SCL",       0x00FC#16, 0xFFFF#16, fun _ => .scl⟩,
    ⟨"EXT",       0x00FD#16, 0xFFFF#16, fun _ => .ext⟩,
    ⟨"LRS",       0x00FE#16, 0xFFFF#16, fun _ => .lrs⟩,
    ⟨"HRS",       0x00FF#16, 0xFFFF#16, fun _ => .hrs⟩ ]

/-- The opcode map of 30_encoding R66, rows 1 to 40. -/
def opcodeMap : List OpcodeRow := opcodeRows1 ++ opcodeRows2 ++ opcodeRows3 ++ opcodeRows4

/-- `Decode(op)`, 30_encoding R66, R71: the row whose pattern matches, its operands bound; the sentinel where none does.
Total: decoding never fails (40 R82). -/
def decodeWord (op : Word) : Instr :=
  match opcodeMap.find? (fun r => r.matches op) with
  | some r => r.bind op
  | none => .illegal op

/-- The opcode two bytes hold, the byte at the lower address first: big-endian (20_memory R42, R45). -/
def wordOfBytes (hi lo : Byte) : Word := hi ++ lo

/-- Why bytes are no instruction. -/
inductive DecodeError where
  /-- Fewer than the two bytes every instruction has (30_encoding R60). -/
  | truncated
  deriving DecidableEq, Repr

/-- The byte-level decoder: the instruction in the first two bytes, and the rest. -/
def decode : List Byte → Except DecodeError (Instr × List Byte)
  | hi :: lo :: rest => .ok (decodeWord (wordOfBytes hi lo), rest)
  | _ => .error .truncated

/-- A nibble of an encoding. -/
def nibble (x : Fin 16) : BitVec 4 := BitVec.ofFin x

/-- The format XKK, `ffff xxxx kkkk kkkk` (30_encoding R62). -/
def encXKK (f : BitVec 4) (x : RegIdx) (kk : Byte) : Word := f ++ nibble x ++ kk

/-- The format XY, `ffff xxxx yyyy ffff` (30_encoding R62). -/
def encXY (f : BitVec 4) (x y : RegIdx) (g : BitVec 4) : Word := f ++ nibble x ++ nibble y ++ g

/-- The format X, `ffff xxxx ffff ffff` (30_encoding R62). -/
def encX (f : BitVec 4) (x : RegIdx) (g : Byte) : Word := f ++ nibble x ++ g

/-- The format NNN, `ffff nnnn nnnn nnnn` (30_encoding R62). -/
def encNNN (f : BitVec 4) (nnn : BitVec 12) : Word := f ++ nnn

/-- The opcode of an instruction, from the Pattern column of 30_encoding R66. -/
def encode : Instr → Word
  | .cls => 0x00E0#16
  | .ret => 0x00EE#16
  | .jpAddr nnn => encNNN 0x1#4 nnn
  | .callAddr nnn => encNNN 0x2#4 nnn
  | .seImm x kk => encXKK 0x3#4 x kk
  | .sneImm x kk => encXKK 0x4#4 x kk
  | .seReg x y => encXY 0x5#4 x y 0x0#4
  | .ldImm x kk => encXKK 0x6#4 x kk
  | .addImm x kk => encXKK 0x7#4 x kk
  | .ldReg x y => encXY 0x8#4 x y 0x0#4
  | .orReg x y => encXY 0x8#4 x y 0x1#4
  | .andReg x y => encXY 0x8#4 x y 0x2#4
  | .xorReg x y => encXY 0x8#4 x y 0x3#4
  | .addReg x y => encXY 0x8#4 x y 0x4#4
  | .subReg x y => encXY 0x8#4 x y 0x5#4
  | .shrReg x y => encXY 0x8#4 x y 0x6#4
  | .subnReg x y => encXY 0x8#4 x y 0x7#4
  | .shlReg x y => encXY 0x8#4 x y 0xE#4
  | .sneReg x y => encXY 0x9#4 x y 0x0#4
  | .ldIAddr nnn => encNNN 0xA#4 nnn
  | .jpV0 nnn => encNNN 0xB#4 nnn
  | .rnd x kk => encXKK 0xC#4 x kk
  | .drw x y n => encXY 0xD#4 x y (nibble n)
  | .skp x => encX 0xE#4 x 0x9E#8
  | .sknp x => encX 0xE#4 x 0xA1#8
  | .ldVxDT x => encX 0xF#4 x 0x07#8
  | .ldVxK x => encX 0xF#4 x 0x0A#8
  | .ldDTVx x => encX 0xF#4 x 0x15#8
  | .ldSTVx x => encX 0xF#4 x 0x18#8
  | .addIVx x => encX 0xF#4 x 0x1E#8
  | .ldFVx x => encX 0xF#4 x 0x29#8
  | .ldBVx x => encX 0xF#4 x 0x33#8
  | .ldMemVx x => encX 0xF#4 x 0x55#8
  | .ldVxMem x => encX 0xF#4 x 0x65#8
  | .dsv n => 0x00C#12 ++ nibble n
  | .scr => 0x00FB#16
  | .scl => 0x00FC#16
  | .ext => 0x00FD#16
  | .lrs => 0x00FE#16
  | .hrs => 0x00FF#16
  | .illegal op => op

/-- The bytes of an instruction as memory holds them, the high byte at the lower address (30_encoding R60). -/
def encodeBytes (i : Instr) : List Byte := [(encode i).extractLsb' 8 8, (encode i).extractLsb' 0 8]

/-- The opcode of which the table's row gives the low `nbits` bits, the bits above them zero. -/
def tableWord (nbits w : Nat) : Word := BitVec.ofNat 16 (w % 2 ^ nbits)

/-- The instruction the decoder reads from a row's bits: one 16-bit word, laid out as memory holds it. -/
def decodeTableWord (nbits w : Nat) : Option Instr :=
  match decode [(tableWord nbits w).extractLsb' 8 8, (tableWord nbits w).extractLsb' 0 8] with
  | .ok (i, _) => some i
  | .error _ => none

/-- A hexadecimal digit. -/
def hexDigit (d : Fin 16) : String :=
  ["0", "1", "2", "3", "4", "5", "6", "7", "8", "9", "A", "B", "C", "D", "E", "F"].getD d.val ""

/-- The name of a general register, `V0` to `VF` (30_encoding R72). -/
def regName (x : RegIdx) : String := "V" ++ hexDigit x

/-- A nibble in hexadecimal. -/
def hexNibble (n : Fin 16) : String := "0x" ++ hexDigit n

/-- A byte in hexadecimal. -/
def hexByte (b : Byte) : String := "0x" ++ hexDigit (b.extractLsb' 4 4).toFin ++ hexDigit (b.extractLsb' 0 4).toFin

/-- A 12-bit address in hexadecimal. -/
def hexAddr (a : BitVec 12) : String :=
  "0x" ++ hexDigit (a.extractLsb' 8 4).toFin ++ hexDigit (a.extractLsb' 4 4).toFin ++ hexDigit (a.extractLsb' 0 4).toFin

/-- The assembler text of an instruction: mnemonic, a space, operands separated by commas, in the spellings of the
Mnemonic column of 30_encoding R66 (R72). No step reads it. -/
def assemblyText : Instr → String
  | .cls => "CLS"
  | .ret => "RET"
  | .jpAddr nnn => "JP " ++ hexAddr nnn
  | .callAddr nnn => "CALL " ++ hexAddr nnn
  | .seImm x kk => "SE " ++ regName x ++ "," ++ hexByte kk
  | .sneImm x kk => "SNE " ++ regName x ++ "," ++ hexByte kk
  | .seReg x y => "SE " ++ regName x ++ "," ++ regName y
  | .ldImm x kk => "LD " ++ regName x ++ "," ++ hexByte kk
  | .addImm x kk => "ADD " ++ regName x ++ "," ++ hexByte kk
  | .ldReg x y => "LD " ++ regName x ++ "," ++ regName y
  | .orReg x y => "OR " ++ regName x ++ "," ++ regName y
  | .andReg x y => "AND " ++ regName x ++ "," ++ regName y
  | .xorReg x y => "XOR " ++ regName x ++ "," ++ regName y
  | .addReg x y => "ADD " ++ regName x ++ "," ++ regName y
  | .subReg x y => "SUB " ++ regName x ++ "," ++ regName y
  | .shrReg x y => "SHR " ++ regName x ++ "," ++ regName y
  | .subnReg x y => "SUBN " ++ regName x ++ "," ++ regName y
  | .shlReg x y => "SHL " ++ regName x ++ "," ++ regName y
  | .sneReg x y => "SNE " ++ regName x ++ "," ++ regName y
  | .ldIAddr nnn => "LD I," ++ hexAddr nnn
  | .jpV0 nnn => "JP V0," ++ hexAddr nnn
  | .rnd x kk => "RND " ++ regName x ++ "," ++ hexByte kk
  | .drw x y n => "DRW " ++ regName x ++ "," ++ regName y ++ "," ++ hexNibble n
  | .skp x => "SKP " ++ regName x
  | .sknp x => "SKNP " ++ regName x
  | .ldVxDT x => "LD " ++ regName x ++ ",DT"
  | .ldVxK x => "LD " ++ regName x ++ ",K"
  | .ldDTVx x => "LD DT," ++ regName x
  | .ldSTVx x => "LD ST," ++ regName x
  | .addIVx x => "ADD I," ++ regName x
  | .ldFVx x => "LD F," ++ regName x
  | .ldBVx x => "LD B," ++ regName x
  | .ldMemVx x => "LD [I]," ++ regName x
  | .ldVxMem x => "LD " ++ regName x ++ ",[I]"
  | .dsv n => "DSV " ++ hexNibble n
  | .scr => "SCR"
  | .scl => "SCL"
  | .ext => "EXT"
  | .lrs => "LRS"
  | .hrs => "HRS"
  | .illegal _ => "ILLEGAL"

end Sys2Proof
end

