-- ==== Sys2Proof/Config.lean ====
section
/-! DEFINITION. What the machine is built with (00_scope R6): the fixed sizes, the quirks record, the font, and the
free values the spec leaves open (93_implementation_defined). The parameters a host supplies are types here and
constant fields of State, so that a statement about every state holds for every parameter. -/

namespace Sys2Proof

/-- `MEM_SIZE`, 00_scope R6. -/
def Config.memSize : Nat := 4096

/-- `ROM_ORIGIN`, 00_scope R6. -/
def Config.romOrigin : Nat := 0x200

/-- `ROM_MAX = MEM_SIZE - ROM_ORIGIN`, 00_scope R6. -/
def Config.romMax : Nat := 3584

/-- `PC_RESET`, 00_scope R6. -/
def Config.pcReset : Word := 0x200#16

/-- The Quirks record `Q`, 10_state R17: eight independent flags. `vBlank` is read by no rule. -/
structure Quirks where
  catchEndlessJump      : Bool
  shift                 : Bool
  memoryIncrementByX    : Bool
  memoryLeaveIUnchanged : Bool
  wrapSprite            : Bool
  jump                  : Bool
  vBlank                : Bool
  vfReset               : Bool
  deriving DecidableEq, Repr

/-- The defaults of 10_state R17. PRESUMED for the six flags whose default the source does not itemise
(92_eei_decisions D12), assumption 2; unsafe for a claim that rests on them. -/
def Quirks.default : Quirks :=
  { catchEndlessJump := true, shift := true, memoryIncrementByX := false, memoryLeaveIUnchanged := false,
    wrapSprite := false, jump := false, vBlank := false, vfReset := true }

/-- The font parameters, 00_scope R6: `FONT_BASE`, with `FONT_BASE + 80 <= 0x200` by its type, and `FONT[0..79]`. -/
structure Font where
  base   : Fin 433
  glyphs : Vector Byte 80
  deriving DecidableEq, Repr

/-- The customary font of 20_memory R49 at the customary `FONT_BASE` 0x050. PRESUMED (general knowledge in the spec
itself), assumption 3; unsafe for a claim about font bytes. -/
def Font.default : Font :=
  { base := 0x050
    glyphs := #v[
      0xF0, 0x90, 0x90, 0x90, 0xF0,  0x20, 0x60, 0x20, 0x20, 0x70,  0xF0, 0x10, 0xF0, 0x80, 0xF0,  0xF0, 0x10, 0xF0, 0x10, 0xF0,
      0x90, 0x90, 0xF0, 0x10, 0x10,  0xF0, 0x80, 0xF0, 0x10, 0xF0,  0xF0, 0x80, 0xF0, 0x90, 0xF0,  0xF0, 0x10, 0x20, 0x40, 0x40,
      0xF0, 0x90, 0xF0, 0x90, 0xF0,  0xF0, 0x90, 0xF0, 0x10, 0xF0,  0xF0, 0x90, 0xF0, 0x90, 0x90,  0xE0, 0x90, 0xE0, 0x90, 0xE0,
      0xF0, 0x80, 0x80, 0x80, 0xF0,  0xE0, 0x90, 0x90, 0x90, 0xE0,  0xF0, 0x80, 0xF0, 0x80, 0xF0,  0xF0, 0x80, 0xF0, 0x80, 0x80] }

/-- Free value: the byte the `n`-th draw delivers to RND (42 R131, U4). Assumption 6; safe. -/
opaque Config.randomByte (n : Nat) : Byte

/-- Free value: what `KeyDown(k)` answers for a key number above 15 (50 R205, U5). Assumption 7; safe. -/
opaque Config.keyDownBeyond (n : Nat) (k : Byte) : Bool

/-- Free value: which of several down keys `AnyKey()` returns (50 R205, U6). Assumption 8; safe. -/
opaque Config.keyChoice (n : Nat) : Nat

/-- Free value: VF after a DRW aborted by a memory fault (44 R161, U7). Assumption 9; safe. -/
opaque Config.abortedFlag (n : Nat) : Byte

/-- Free value: DIRTY after a DRW aborted by a memory fault (44 R161, U7). Assumption 9; safe. -/
opaque Config.abortedDirty (n : Nat) : Bool

/-- Free value: a pixel after a change of resolution (44 R165, R166, U8). Assumption 10; safe. -/
opaque Config.resizedPixel (n x y : Nat) : Bool

/-- Free value: KEYS after construction (10_state R23, U12). DESIGN CHOICE, assumption 5; safe. -/
opaque Config.keysAtConstruction : Vector Bool 16

end Sys2Proof
end

