-- ==== Sys2Proof/Machine/State.lean ====
section
/-! DEFINITION. The state of the machine as plain data: everything 10_state names, the parameters the machine was built
with, and the model's own two fields (`draws`, `schedule`); its value after construction; the two ways a step can stop. -/

namespace Sys2Proof.Machine

/-- `RUN`, 10_state R18. -/
inductive RunState where
  | running
  | halted
  deriving DecidableEq, Repr

/-- The causes of a failing cycle, 60_exceptions R230, in the order of their codes. -/
inductive Cause where
  /-- `E_NONE`: no failure since reset. -/
  | none
  /-- `E_FETCH_OOB`: the fetch left the memory. -/
  | fetchOob
  /-- `E_NULL_DECODE`: named by the source and unreachable (30_encoding R69, R71); no step records it. -/
  | nullDecode
  /-- `E_STACK_OVERFLOW`: CALL with 16 entries in use. -/
  | stackOverflow
  /-- `E_STACK_UNDERFLOW`: RET with no entry in use. -/
  | stackUnderflow
  /-- `E_ILLEGAL`: an opcode of no family. -/
  | illegal
  /-- `E_ENDLESS_JUMP`: a self-jump caught by the quirk. -/
  | endlessJump
  /-- `E_MEM_FAULT`: an instruction's access left the memory. -/
  | memFault
  /-- `E_EXIT`: EXT. -/
  | exit
  /-- `E_UNSUPPORTED`: a SUPER-CHIP display instruction without the display. -/
  | unsupported
  deriving DecidableEq, Repr

/-- The class of a failing cycle, 60_exceptions R231. -/
inductive ErrClass where
  | none
  | fatal
  | halt
  deriving DecidableEq, Repr

/-- The error record `ERR`, 10_state R19. -/
structure ErrorRecord where
  cause  : Cause
  cls    : ErrClass
  opcode : Word
  addr   : Word
  maddr  : BitVec 17
  deriving DecidableEq, Repr

/-- The record when no cycle has failed since reset, 10_state R19. -/
def ErrorRecord.clear : ErrorRecord := { cause := .none, cls := .none, opcode := 0, addr := 0, maddr := 0 }

/-- `MEM` as the cells that differ from what an unlisted address reads as, by rising address. -/
abbrev Memory := List Host.Cell

/-- The pixel grid, by row and then column, large enough for the extended size; in the normal size only its upper left
64 x 32 part is the display (assumption 17). -/
abbrev Grid := Vector (Vector Bool 128) 64

/-- The grid with every pixel false. -/
def Grid.blank : Grid := Vector.replicate 64 (Vector.replicate 128 false)

/-- One step of one of the five agents of 00_scope R5. -/
inductive Turn where
  /-- The core: one `RunCycle()`, 40 R80. -/
  | runCycle
  /-- The timer tick: `DecrementTimers()`, 50 R208. -/
  | decrementTimers
  /-- The keypad refresh: `UpdateKeys()` leaves these key states, 50 R206. -/
  | updateKeys (keys : Vector Bool 16)
  /-- The display consumer presents the display, 50 R204. -/
  | present
  /-- The host: `Reset(fullSystemReset)`, 70 R261, R262. -/
  | reset (full : Bool)
  /-- The host: `LoadRom(bytes)`, 20 R50. -/
  | loadRom (bytes : List Byte)
  deriving DecidableEq, Repr

/-- The machine's state. -/
structure State where
  /-- `V[0..15]`, R10; `V[15]` is the flag VF, R11. -/
  v            : Vector Byte 16
  /-- `I`, R12. -/
  i            : Word
  /-- `PC`, R13. -/
  pc           : Word
  /-- `STACK[0..15]`, R14. -/
  stack        : Vector Word 16
  /-- `SP`, the number of entries in use, R15. -/
  sp           : Fin 17
  /-- `Q`, R17; no step writes it. -/
  quirks       : Quirks
  /-- `RUN`, R18. -/
  run          : RunState
  /-- `ERR`, R19. -/
  err          : ErrorRecord
  /-- `MEM`, R20. -/
  mem          : Memory
  /-- `PIX`, R22. -/
  pix          : Grid
  /-- `DIRTY`, R22. -/
  dirty        : Bool
  /-- `EXTMODE`, R22. -/
  extMode      : Bool
  /-- `KEYS[0..15]`, R23. -/
  keys         : Vector Bool 16
  /-- `DT`, R24. -/
  dt           : Byte
  /-- `ST`, R24. -/
  st           : Byte
  /-- `BEEP`, R24. -/
  beep         : Bool
  /-- `FONT_BASE` and `FONT`, parameters of the machine, R26; no step writes them. -/
  font         : Font
  /-- `DISPLAY_SCHIP`, a parameter of the machine, R26; no step writes it. -/
  displaySchip : Bool
  /-- The model's own: how many free values have been drawn (assumption 6). -/
  draws        : Nat
  /-- The model's own: whose turn it is, the next turn first; when it is empty the core's (assumption 11). -/
  schedule     : List Turn
  deriving DecidableEq, Repr

/-- Construction with the host's parameters, 70_reset_and_hazards R260. The key states are unspecified there and are the
free value `Config.keysAtConstruction` (assumption 5). -/
def State.construct (quirks : Quirks) (font : Font) (displaySchip : Bool) : State :=
  { v := Vector.replicate 16 0
    i := 0
    pc := Config.pcReset
    stack := Vector.replicate 16 0
    sp := 0
    quirks := quirks
    run := .running
    err := ErrorRecord.clear
    mem := []
    pix := Grid.blank
    dirty := false
    extMode := false
    keys := Config.keysAtConstruction
    dt := 0
    st := 0
    beep := false
    font := font
    displaySchip := displaySchip
    draws := 0
    schedule := [] }

/-- The machine right after construction (assumption 1), with the default parameters (assumptions 2, 3) and a display
that has the SUPER-CHIP capability (DESIGN CHOICE, assumption 4). -/
def State.reset : State := State.construct Quirks.default Font.default true

/-- Why the machine stops with a fault. There is no constructor, so no step does: every failure the spec names, fatal or
recoverable, is a next state with `ERR` written and `RUN` halted (60 R233; assumption 14). Safe. -/
inductive Fault where
  deriving DecidableEq, Repr

/-- Why a step has no meaning. -/
inductive Refusal where
  /-- An instruction whose meaning is not written. Raised by no arm now. Safe. -/
  | notModelled (mnemonic : String)
  /-- `MemoryIncrementByX` and `MemoryLeaveIunchanged` both set: "a model gives a machine so configured no meaning"
  (43 R146, 60 R246). Raised by the step in that configuration, and by the block load and store. Safe. -/
  | bothMemoryQuirks
  deriving DecidableEq, Repr

/-- What a meaning answers. -/
abbrev Answer := Host.Outcome State Fault Refusal

end Sys2Proof.Machine
end

