-- ==== Sys2Proof/Machine/Memory.lean ====
section
/-! DEFINITION. The memory array (20_memory): what an unlisted address reads as, reading and writing a cell, the canonical
form. Addresses are natural numbers and are checked against `MEM_SIZE`, never masked (R44). -/

namespace Sys2Proof

/-- What the memory holds at an address after `Memory.Reset()` (20_memory R51): the font byte inside the font, else 0.
An address that `Memory` does not list reads as this (assumption 16). -/
def Font.byteAt (f : Font) (a : Nat) : Byte :=
  if f.base.val ≤ a ∧ a < f.base.val + 80 then f.glyphs.toList.getD (a - f.base.val) 0 else 0

end Sys2Proof

namespace Sys2Proof.Machine

/-- The byte at an address. -/
def Memory.get (f : Font) : Memory → Nat → Byte
  | [], a => f.byteAt a
  | (b, w) :: rest, a => if a = b then w else Memory.get f rest a

/-- Insert a cell at its place, or drop it when it holds what an unlisted address reads as. -/
def Memory.put (f : Font) : Memory → Nat → Byte → Memory
  | [], a, x => if x = f.byteAt a then [] else [(a, x)]
  | (b, w) :: rest, a, x =>
    if a < b then (if x = f.byteAt a then (b, w) :: rest else (a, x) :: (b, w) :: rest)
    else if a = b then (if x = f.byteAt a then rest else (a, x) :: rest)
    else (b, w) :: Memory.put f rest a x

/-- Every listed address is at least `lo`, rises strictly, is an address of the memory, and holds a byte an unlisted
address would not read as. -/
def Memory.wfFrom (f : Font) : Nat → Memory → Bool
  | _, [] => true
  | lo, (a, x) :: rest =>
    decide (lo ≤ a) && decide (a < Config.memSize) && decide (x ≠ f.byteAt a) && Memory.wfFrom f (a + 1) rest

/-- The canonical form. -/
def Memory.wf (f : Font) (m : Memory) : Bool := Memory.wfFrom f 0 m

end Sys2Proof.Machine
end

