-- ==== Sys2Proof/Machine/Ops.lean ====
section
/-! DEFINITION. The named operations over the state: registers, the program counter, the stack controller, memory, the
abort entry and the resets beside it, the timers, the keypad queries, the random byte. -/

namespace Sys2Proof.Machine

/-! Registers (10_state R10 to R13; 00_scope R8) -/

/-- `V[x]`. -/
def State.reg (s : State) (x : RegIdx) : Byte := s.v[x]

/-- `V[x] <- b`. -/
def State.setReg (s : State) (x : RegIdx) (b : Byte) : State := { s with v := s.v.set x b }

/-- `I <- w`. -/
def State.setI (s : State) (w : Word) : State := { s with i := w }

/-- `PC <- w`. -/
def State.setPc (s : State) (w : Word) : State := { s with pc := w }

/-- `PC <- (PC + 2) mod 65536`: the advance of 40 R83 and the `skip` of R90. -/
def State.skip (s : State) : State := s.setPc (s.pc + 2#16)

/-- `skip` if the condition holds. -/
def State.skipIf (s : State) (c : Bool) : State := if c then s.skip else s

/-- `IA` during execution: `PC - 2` while the instruction has not written `PC` (40 R89). -/
def State.ia (s : State) : Word := s.pc - 2#16

/-! The stack controller (40 R91). `none` where the stack is full or empty; then nothing changes. -/

/-- `Push(w)`. -/
def State.push (s : State) (w : Word) : Option State :=
  if h : s.sp.val < 16 then
    some { s with stack := s.stack.set s.sp.val w, sp := ⟨s.sp.val + 1, by omega⟩ }
  else none

/-- `Pop()`: the entry and the state without it; the popped slot keeps its contents. -/
def State.pop (s : State) : Option (Word × State) :=
  if h : 0 < s.sp.val then
    some (s.stack[s.sp.val - 1]'(by omega), { s with sp := ⟨s.sp.val - 1, by omega⟩ })
  else none

/-! Memory accesses (20_memory R41 to R44) -/

/-- `MemRead(a, 1)`: `none` is `OutOfBounds(a)`. -/
def State.readByte? (s : State) (a : Nat) : Option Byte :=
  if a < Config.memSize then some (Memory.get s.font s.mem a) else none

/-- `MemWrite(a, 1, b)`: `none` is `OutOfBounds(a)`. -/
def State.writeByte? (s : State) (a : Nat) (b : Byte) : Option State :=
  if a < Config.memSize then some { s with mem := Memory.put s.font s.mem a b } else none

/-- `MemRead(a, 2)`: the big-endian word, or the first address out of bounds. -/
def State.readWord (s : State) (a : Nat) : Except Nat Word :=
  match s.readByte? a, s.readByte? (a + 1) with
  | some hi, some lo => .ok (wordOfBytes hi lo)
  | some _, none => .error (a + 1)
  | none, _ => .error a

/-- Byte writes at ascending addresses, stopping at the first that fails (20_memory R47): the state with the writes made,
and the failing address if there is one. -/
def State.writeBytes (s : State) (a : Nat) : List Byte → State × Option Nat
  | [] => (s, none)
  | b :: bs =>
    match s.writeByte? a b with
    | some s' => s'.writeBytes (a + 1) bs
    | none => (s, some a)

/-- `V[k] <- MemRead(a + k, 1)` for `n` registers from `k`, ascending, stopping at the first that fails (43 R145). -/
def State.loadRegs (s : State) (a k : Nat) : Nat → State × Option Nat
  | 0 => (s, none)
  | n + 1 =>
    match s.readByte? (a + k) with
    | some b => (s.setReg (Fin.ofNat 16 k) b).loadRegs a (k + 1) n
    | none => (s, some (a + k))

/-! Free values -/

/-- One free value has been drawn (assumption 6). -/
def State.drawn (s : State) : State := { s with draws := s.draws + 1 }

/-- `draw_u8()`, 42 R131. -/
def State.randomByte (s : State) : Byte := Config.randomByte s.draws

/-! Abort entry (60_exceptions R230, R231, R233), and what leaves the halted state -/

/-- The class of a cause, 60 R230. -/
def Cause.cls : Cause → ErrClass
  | .none => .none
  | .fetchOob | .nullDecode | .stackOverflow | .stackUnderflow => .fatal
  | .illegal | .endlessJump | .memFault | .exit | .unsupported => .halt

/-- The code of a cause, 60 R230. -/
def Cause.code : Cause → Nat
  | .none => 0
  | .fetchOob => 1
  | .nullDecode => 2
  | .stackOverflow => 3
  | .stackUnderflow => 4
  | .illegal => 5
  | .endlessJump => 6
  | .memFault => 7
  | .exit => 8
  | .unsupported => 9

/-- The causes whose record holds a memory address, 60 R233. -/
def Cause.hasAddress : Cause → Bool
  | .fetchOob | .memFault => true
  | _ => false

/-- `raise Fatal(cause, info)` and `raise Halt(cause, info)`, 60 R233: `ERR` and `RUN` are written and nothing else. -/
def State.abort (s : State) (c : Cause) (opcode ia : Word) (info : Nat) : State :=
  { s with
    err := { cause := c, cls := c.cls, opcode := opcode, addr := ia,
             maddr := if c.hasAddress then BitVec.ofNat 17 info else 0 }
    run := .halted }

/-- The abort of an instruction that has not written `PC`: `ERR.opcode` is its opcode, `ERR.addr` is `IA`. -/
def State.raise (s : State) (c : Cause) (i : Instr) (info : Nat) : State := s.abort c (encode i) s.ia info

/-- The end of a multi-byte access by the instruction `i`: what was done stays done, and then either the instruction goes
on, or `E_MEM_FAULT` is raised for the address that failed (43 R143 to R145, 60 R234). -/
def endTransfer (i : Instr) (r : State × Option Nat) (goOn : State → State) : State :=
  match r.2 with
  | none => goOn r.1
  | some a => r.1.raise .memFault i a

/-- `Reset(false)`, 70 R261: the core's registers, `RUN` and `ERR`. -/
def State.resetCore (s : State) : State :=
  { s with
    v := Vector.replicate 16 0
    i := 0
    pc := Config.pcReset
    stack := Vector.replicate 16 0
    sp := 0
    run := .running
    err := ErrorRecord.clear }

/-- `Reset(true)`, 70 R262: also the memory (20 R51) and the pixels, with `DIRTY` set. -/
def State.resetFull (s : State) : State :=
  { s.resetCore with mem := [], pix := Grid.blank, dirty := true }

/-! Timers (50 R207, R208) -/

/-- `SetDelayTimer(b)`. -/
def State.setDelayTimer (s : State) (b : Byte) : State := { s with dt := b }

/-- `SetSoundTimer(b)`: also recomputes the beeper. -/
def State.setSoundTimer (s : State) (b : Byte) : State := { s with st := b, beep := decide (0 < b.toNat) }

/-- One timer counts down, clamped at 0. -/
def countDown (b : Byte) : Byte := if 0 < b.toNat then b - 1#8 else b

/-- `DecrementTimers()`. -/
def State.decrementTimers (s : State) : State :=
  { s with dt := countDown s.dt, st := countDown s.st, beep := decide (0 < (countDown s.st).toNat) }

/-! Keypad queries (50 R205): level-triggered, and neither changes `KEYS` -/

/-- `KeyDown(k)`: above 15 an unspecified boolean (assumption 7). -/
def State.keyDown (s : State) (k : Byte) : Bool :=
  if h : k.toNat < 16 then s.keys[k.toNat] else Config.keyDownBeyond s.draws k

/-- The state after `KeyDown(k)`: the same, but for the draw an unspecified answer takes. -/
def State.afterKeyDown (s : State) (k : Byte) : State := if k.toNat < 16 then s else s.drawn

/-- The keys that are down, in ascending order. -/
def State.downKeys (s : State) : List (Fin 16) := (List.finRange 16).filter fun k => s.keys[k]

/-- `AnyKey()`: `none` when no key is down; the key when one is; one of them, unspecified which, when several are
(assumption 8). -/
def State.anyKey (s : State) : Option (Fin 16) :=
  match s.downKeys with
  | [] => none
  | [k] => some k
  | k :: ks => (k :: ks)[Config.keyChoice s.draws % (ks.length + 1)]?

/-- The state after `AnyKey()`: the same, but for the draw that a choice among several keys takes. -/
def State.afterAnyKey (s : State) : State := if 1 < s.downKeys.length then s.drawn else s

end Sys2Proof.Machine
end

