-- ==== Sys2Proof/Machine/Operands.lean ====
section
/-! DEFINITION. Operand forms: immediates widened, the register a quirk selects, the effective address, the registers of
a block, the update of `I` after one. -/

namespace Sys2Proof

/-- The quirk combinations the spec gives a meaning (10_state R17, 43 R146). -/
def Quirks.legal (q : Quirks) : Bool := !(q.memoryIncrementByX && q.memoryLeaveIUnchanged)

end Sys2Proof

namespace Sys2Proof.Machine

/-- `zext_16(nnn)`, 30_encoding R63. -/
def zextAddr (nnn : BitVec 12) : Word := nnn.setWidth 16

/-- `zext_16(b)`. -/
def zextByte (b : Byte) : Word := b.setWidth 16

/-- The source of SHR and SHL: `V[x]` if `Q.Shift`, else `V[y]` (42 R128, R130). -/
def State.shiftSource (s : State) (x y : RegIdx) : Byte := if s.quirks.shift then s.reg x else s.reg y

/-- The high nibble of `nnn`, which names the register of JP V0 under `Q.Jump` (41 R107). -/
def addrX (nnn : BitVec 12) : RegIdx := (nnn.extractLsb' 8 4).toFin

/-- The register JP V0,addr adds: `V[x]` if `Q.Jump`, else `V[0]` (41 R107). -/
def State.jumpOffset (s : State) (nnn : BitVec 12) : Byte := if s.quirks.jump then s.reg (addrX nnn) else s.reg 0

/-- The effective address `EA(k) = I + k`, exact (20_memory R44). -/
def State.ea (s : State) (k : Nat) : Nat := s.i.toNat + k

/-- `FONT_BASE + 5 * (V[x] AND 0x0F)`, 43 R142. -/
def State.glyphAddr (s : State) (x : RegIdx) : Word := BitVec.ofNat 16 (s.font.base.val + 5 * (s.reg x &&& 0x0F#8).toNat)

/-- The three digits of a byte, hundreds first (43 R143). -/
def bcdDigits (b : Byte) : List Byte :=
  [BitVec.ofNat 8 (b.toNat / 100), BitVec.ofNat 8 (b.toNat / 10 % 10), BitVec.ofNat 8 (b.toNat % 10)]

/-- `V[0]` to `V[x]`, in ascending order (43 R144). -/
def State.blockRegs (s : State) (x : RegIdx) : List Byte := s.v.toList.take (x.val + 1)

/-- `IndexAfterBlock(I, x)`, 43 R146; `none` is the refused configuration. -/
def indexAfterBlock (q : Quirks) (i : Word) (x : RegIdx) : Option Word :=
  match q.memoryIncrementByX, q.memoryLeaveIUnchanged with
  | false, false => some (i + BitVec.ofNat 16 (x.val + 1))
  | true, false => some (i + BitVec.ofNat 16 x.val)
  | false, true => some i
  | true, true => none

end Sys2Proof.Machine
end

