-- ==== Sys2Proof/Machine/Control.lean ====
section
/-! DEFINITION. The control transfer instructions (41_control_flow). On entry `PC = IA + 2`. -/

namespace Sys2Proof.Machine

/-- RET, R100. -/
def execRet (s : State) : Answer :=
  match s.pop with
  | some (w, s') => .next (s'.setPc w)
  | none => .next (s.raise .stackUnderflow .ret 0)

/-- JP addr, R101; the self-jump is `nnn = PC - 2 = IA`. -/
def execJpAddr (nnn : BitVec 12) (s : State) : Answer :=
  .next (if s.quirks.catchEndlessJump && zextAddr nnn == s.ia then s.raise .endlessJump (.jpAddr nnn) 0
         else s.setPc (zextAddr nnn))

/-- CALL addr, R102. -/
def execCallAddr (nnn : BitVec 12) (s : State) : Answer :=
  match s.push s.pc with
  | some s' => .next (s'.setPc (zextAddr nnn))
  | none => .next (s.raise .stackOverflow (.callAddr nnn) 0)

/-- SE Vx,kk, R103. -/
def execSeImm (x : RegIdx) (kk : Byte) (s : State) : Answer := .next (s.skipIf (s.reg x == kk))

/-- SNE Vx,kk, R104. -/
def execSneImm (x : RegIdx) (kk : Byte) (s : State) : Answer := .next (s.skipIf (s.reg x != kk))

/-- SE Vx,Vy, R105. -/
def execSeReg (x y : RegIdx) (s : State) : Answer := .next (s.skipIf (s.reg x == s.reg y))

/-- SNE Vx,Vy, R106. -/
def execSneReg (x y : RegIdx) (s : State) : Answer := .next (s.skipIf (s.reg x != s.reg y))

/-- JP V0,addr, R107. -/
def execJpV0 (nnn : BitVec 12) (s : State) : Answer := .next (s.setPc (zextAddr nnn + zextByte (s.jumpOffset nnn)))

end Sys2Proof.Machine
end

