-- ==== Sys2Proof/Machine/Flags.lean ====
section
/-! DEFINITION. Every value an instruction writes to VF as a flag (10_state R11), always 0 or 1, and the order in which a
result and its flag are written (42 R133). -/

namespace Sys2Proof.Machine

/-- The index of VF, the flag register (10_state R11). -/
def vf : RegIdx := 15

/-- A flag as a byte. -/
def flagByte (b : Bool) : Byte := if b then 1#8 else 0#8

/-- Carry out of bit 7: the exact sum exceeds 255 (42 R126). -/
def carryFlag (a b : Byte) : Byte := flagByte (decide (a.toNat + b.toNat > 255))

/-- No borrow in `a - b`: `a >= b` (42 R127, R129). -/
def noBorrowFlag (a b : Byte) : Byte := flagByte (decide (a.toNat ≥ b.toNat))

/-- The bit a right shift moves out, bit 0 (42 R128). -/
def shiftedOutRight (a : Byte) : Byte := flagByte (a.getLsbD 0)

/-- The bit a left shift moves out, bit 7 (42 R130). -/
def shiftedOutLeft (a : Byte) : Byte := flagByte (a.getLsbD 7)

/-- Write the result to `V[x]`, then the flag to `V[15]`: with `x = 15` the flag remains (42 R133). -/
def State.setRegFlag (s : State) (x : RegIdx) (result flag : Byte) : State := (s.setReg x result).setReg vf flag

/-- Write a logic result to `V[x]`, then reset VF if `Q.VFreset` (42 R123 to R125). -/
def State.setRegLogic (s : State) (x : RegIdx) (result : Byte) : State :=
  if s.quirks.vfReset then s.setRegFlag x result 0#8 else s.setReg x result

end Sys2Proof.Machine
end

