-- ==== Sys2Proof/Machine/Display.lean ====
section
/-! DEFINITION. The Display collaborator's state and operations (10_state R22, 50 R202, R203): the pixel grid, the size,
clearing, scrolling, changing the resolution, and the sprite blit of 44 R161. -/

namespace Sys2Proof.Machine

/-- The pixel in column `x` of row `y`; false outside the grid. -/
def Grid.get (g : Grid) (x y : Nat) : Bool := if h : x < 128 ∧ y < 64 then (g[y]'h.2)[x]'h.1 else false

/-- Set the pixel in column `x` of row `y`; nothing outside the grid. -/
def Grid.set (g : Grid) (x y : Nat) (b : Bool) : Grid :=
  if h : x < 128 ∧ y < 64 then Vector.set g y (Vector.set (g[y]'h.2) x b h.1) h.2 else g

/-- The grid that holds `f x y` in its upper left `w` x `h` part and false elsewhere. Irreducible, so that no proof
unfolds its 8192 pixels by accident; `Grid.get_tabulate` says what it holds. -/
@[irreducible] def Grid.tabulate (w h : Nat) (f : Nat → Nat → Bool) : Grid :=
  Vector.ofFn fun y : Fin 64 => Vector.ofFn fun x : Fin 128 => decide (x.val < w) && decide (y.val < h) && f x.val y.val

/-- `W`: 128 when `EXTMODE`, else 64 (10_state R22). -/
def State.width (s : State) : Nat := if s.extMode then 128 else 64

/-- `H`: 64 when `EXTMODE`, else 32 (10_state R22). -/
def State.height (s : State) : Nat := if s.extMode then 64 else 32

/-- `Pix(x, y)`. -/
def State.pixel (s : State) (x y : Nat) : Bool := s.pix.get x y

/-- `at(x, y)` for reading: fails outside the display (50 R203). -/
def State.pixelAt (s : State) (x y : Nat) : Option Bool :=
  if x < s.width ∧ y < s.height then some (s.pixel x y) else none

/-- `SetUpdateRequired()`: `DIRTY <- true`. -/
def State.setDirty (s : State) : State := { s with dirty := true }

/-- The display holds `f x y` at every pixel. -/
def State.setPixels (s : State) (f : Nat → Nat → Bool) : State := { s with pix := Grid.tabulate s.width s.height f }

/-- `Clear()`: every pixel false, the resolution unchanged. -/
def State.clearDisplay (s : State) : State := { s with pix := Grid.blank }

/-- Scroll right by `k` (50 R203). -/
def State.scrollRight (s : State) (k : Nat) : State :=
  s.setPixels fun x y => decide (k ≤ x) && s.pixel (x - k) y

/-- Scroll left by `k` (50 R203). -/
def State.scrollLeft (s : State) (k : Nat) : State :=
  s.setPixels fun x y => decide (x + k < s.width) && s.pixel (x + k) y

/-- Scroll down by `k` (50 R203). -/
def State.scrollDown (s : State) (k : Nat) : State :=
  s.setPixels fun x y => decide (k ≤ y) && s.pixel x (y - k)

/-- The distance of SCR and SCL: 8 when `EXTMODE`, else 4 (44 R162, R163). -/
def State.scrollAmount (s : State) : Nat := if s.extMode then 8 else 4

/-- The distance of DSV: `n mod 16` when `EXTMODE`, else `n mod 8` (44 R164). -/
def State.scrollLines (s : State) (n : Fin 16) : Nat := if s.extMode then n.val % 16 else n.val % 8

/-- Set the resolution: `EXTMODE` is written and every pixel is unspecified (50 R203; assumption 10). -/
def State.setResolution (s : State) (ext : Bool) : State :=
  ({ s with extMode := ext }.setPixels (Config.resizedPixel s.draws)).drawn

/-- "require display capability", 44 R167: without it `E_UNSUPPORTED` and no other effect. -/
def State.withDisplay (s : State) (i : Instr) (f : State → State) : State :=
  if s.displaySchip then f s else s.raise .unsupported i 0

/-! The sprite blit (44 R161) -/

/-- The geometry of one draw: the wrap quirk, the display's size, the start column. -/
structure Blit where
  wrap : Bool
  w    : Nat
  h    : Nat
  x0   : Nat

/-- Where a sprite pixel falls: wrapped to the opposite edge, or discarded when it is off the display. -/
def Blit.target (b : Blit) (px py : Nat) : Option (Nat × Nat) :=
  if b.wrap then some (px % b.w, py % b.h)
  else if px ≥ b.w ∨ py ≥ b.h then none
  else some (px, py)

/-- Draw one set pixel of the sprite: toggle it, and note a collision if it was on. -/
def Blit.plot (b : Blit) (px py : Nat) (acc : Grid × Bool) : Grid × Bool :=
  match b.target px py with
  | some (x, y) => (acc.1.set x y (!acc.1.get x y), acc.2 || acc.1.get x y)
  | none => acc

/-- Draw the pixels `c`, `c + 1`, … of a row, `n` of them: bit `7 - c` is the pixel in column `x0 + c`. -/
def Blit.pixels (b : Blit) (py : Nat) (row : Byte) (c : Nat) : Nat → Grid × Bool → Grid × Bool
  | 0, acc => acc
  | n + 1, acc => b.pixels py row (c + 1) n (if row.getLsbD (7 - c) then b.plot (b.x0 + c) py acc else acc)

/-- Draw one row of the sprite, its 8 pixels from the left. -/
def Blit.row (b : Blit) (py : Nat) (row : Byte) (acc : Grid × Bool) : Grid × Bool := b.pixels py row 0 8 acc

/-- Draw the rows `r`, `r + 1`, … of the sprite, `n` of them, row `r` being the byte at `I + r` drawn at `y0 + r`; stop at
the first byte that cannot be read. -/
def State.drawRows (s : State) (b : Blit) (y0 r : Nat) : Nat → Grid × Bool → (Grid × Bool) × Option Nat
  | 0, acc => (acc, none)
  | n + 1, acc =>
    match s.readByte? (s.ea r) with
    | some row => s.drawRows b y0 (r + 1) n (b.row (y0 + r) row acc)
    | none => (acc, some (s.ea r))

/-- The start of a draw at `(V[x] mod W, V[y] mod H)`. -/
def State.blit (s : State) (x : RegIdx) : Blit :=
  { wrap := s.quirks.wrapSprite, w := s.width, h := s.height, x0 := (s.reg x).toNat % s.width }

/-- A completed draw: the pixels, VF the collision, `DIRTY` set. -/
def State.drawDone (s : State) (acc : Grid × Bool) : State :=
  ({ s with pix := acc.1 }.setReg vf (flagByte acc.2)).setDirty

/-- An aborted draw: the rows drawn stay, VF and `DIRTY` are unspecified (U7; assumption 9), and `E_MEM_FAULT` is raised. -/
def State.drawAborted (s : State) (i : Instr) (acc : Grid × Bool) (a : Nat) : State :=
  (({ s with pix := acc.1, dirty := Config.abortedDirty s.draws }.setReg vf (Config.abortedFlag s.draws)).drawn).raise
    .memFault i a

end Sys2Proof.Machine
end

