-- ==== Sys2Proof/Machine/DisplayInstr.lean ====
section
/-! DEFINITION. The display instructions (44_display). -/

namespace Sys2Proof.Machine

/-- CLS, R160. -/
def execCls (s : State) : Answer := .next s.clearDisplay.setDirty

/-- DRW Vx,Vy,n, R161. -/
def execDrw (x y : RegIdx) (n : Fin 16) (s : State) : Answer :=
  let r := s.drawRows (s.blit x) ((s.reg y).toNat % s.height) 0 n.val (s.pix, false)
  .next (match r.2 with
    | none => s.drawDone r.1
    | some a => s.drawAborted (.drw x y n) r.1 a)

/-- SCR, R162. -/
def execScr (s : State) : Answer := .next (s.withDisplay .scr fun s => (s.scrollRight s.scrollAmount).setDirty)

/-- SCL, R163. -/
def execScl (s : State) : Answer := .next (s.withDisplay .scl fun s => (s.scrollLeft s.scrollAmount).setDirty)

/-- DSV n, R164. -/
def execDsv (n : Fin 16) (s : State) : Answer :=
  .next (s.withDisplay (.dsv n) fun s => (s.scrollDown (s.scrollLines n)).setDirty)

/-- HRS, R165. -/
def execHrs (s : State) : Answer := .next (s.withDisplay .hrs fun s => (s.setResolution true).setDirty)

/-- LRS, R166. -/
def execLrs (s : State) : Answer := .next (s.withDisplay .lrs fun s => (s.setResolution false).setDirty)

end Sys2Proof.Machine
end

