-- ==== Sys2Proof/Machine/IndexMemory.lean ====
section
/-! DEFINITION. The index register and memory instructions (43_index_memory). A failing access leaves what was done before
it and raises `E_MEM_FAULT` (60 R234). -/

namespace Sys2Proof.Machine

/-- LD I,addr, R140. -/
def execLdIAddr (nnn : BitVec 12) (s : State) : Answer := .next (s.setI (zextAddr nnn))

/-- ADD I,Vx, R141: VF is not written. -/
def execAddIVx (x : RegIdx) (s : State) : Answer := .next (s.setI (s.i + zextByte (s.reg x)))

/-- LD F,Vx, R142. -/
def execLdFVx (x : RegIdx) (s : State) : Answer := .next (s.setI (s.glyphAddr x))

/-- LD B,Vx, R143. -/
def execLdBVx (x : RegIdx) (s : State) : Answer :=
  .next (endTransfer (.ldBVx x) (s.writeBytes (s.ea 0) (bcdDigits (s.reg x))) id)

/-- LD [I],Vx, R144: `I` is updated only after the whole transfer. -/
def execLdMemVx (x : RegIdx) (s : State) : Answer :=
  match indexAfterBlock s.quirks s.i x with
  | some i' => .next (endTransfer (.ldMemVx x) (s.writeBytes (s.ea 0) (s.blockRegs x)) fun t => t.setI i')
  | none => .refused .bothMemoryQuirks

/-- LD Vx,[I], R145: `I` is updated only after the whole transfer. -/
def execLdVxMem (x : RegIdx) (s : State) : Answer :=
  match indexAfterBlock s.quirks s.i x with
  | some i' => .next (endTransfer (.ldVxMem x) (s.loadRegs (s.ea 0) 0 (x.val + 1)) fun t => t.setI i')
  | none => .refused .bothMemoryQuirks

end Sys2Proof.Machine
end

