-- ==== Sys2Proof/Machine/KeyTimerSystem.lean ====
section
/-! DEFINITION. The keypad, timer and system instructions (45_keypad_timers_system). -/

namespace Sys2Proof.Machine

/-- SKP Vx, R180. -/
def execSkp (x : RegIdx) (s : State) : Answer :=
  .next ((s.afterKeyDown (s.reg x)).skipIf (s.keyDown (s.reg x)))

/-- SKNP Vx, R181. -/
def execSknp (x : RegIdx) (s : State) : Answer :=
  .next ((s.afterKeyDown (s.reg x)).skipIf (!s.keyDown (s.reg x)))

/-- LD Vx,K, R182: with no key down the same instruction is fetched again. -/
def execLdVxK (x : RegIdx) (s : State) : Answer :=
  .next (match s.anyKey with
    | some k => s.afterAnyKey.setReg x (BitVec.ofNat 8 k.val)
    | none => s.setPc s.ia)

/-- LD Vx,DT, R183. -/
def execLdVxDT (x : RegIdx) (s : State) : Answer := .next (s.setReg x s.dt)

/-- LD DT,Vx, R184. -/
def execLdDTVx (x : RegIdx) (s : State) : Answer := .next (s.setDelayTimer (s.reg x))

/-- LD ST,Vx, R185. -/
def execLdSTVx (x : RegIdx) (s : State) : Answer := .next (s.setSoundTimer (s.reg x))

/-- EXT, R186. -/
def execExt (s : State) : Answer := .next (s.raise .exit .ext 0)

/-- The ILLEGAL sentinel, R187. -/
def execIllegal (op : Word) (s : State) : Answer := .next (s.raise .illegal (.illegal op) 0)

end Sys2Proof.Machine
end

