-- ==== Sys2Proof/Machine/LoadAlu.lean ====
section
/-! DEFINITION. The load, arithmetic, logic, shift and random instructions (42_load_alu). None changes `PC`; none fails. -/

namespace Sys2Proof.Machine

/-- LD Vx,kk, R120. -/
def execLdImm (x : RegIdx) (kk : Byte) (s : State) : Answer := .next (s.setReg x kk)

/-- ADD Vx,kk, R121: no carry is recorded. -/
def execAddImm (x : RegIdx) (kk : Byte) (s : State) : Answer := .next (s.setReg x (s.reg x + kk))

/-- LD Vx,Vy, R122. -/
def execLdReg (x y : RegIdx) (s : State) : Answer := .next (s.setReg x (s.reg y))

/-- OR Vx,Vy, R123. -/
def execOrReg (x y : RegIdx) (s : State) : Answer := .next (s.setRegLogic x (s.reg x ||| s.reg y))

/-- AND Vx,Vy, R124. -/
def execAndReg (x y : RegIdx) (s : State) : Answer := .next (s.setRegLogic x (s.reg x &&& s.reg y))

/-- XOR Vx,Vy, R125. -/
def execXorReg (x y : RegIdx) (s : State) : Answer := .next (s.setRegLogic x (s.reg x ^^^ s.reg y))

/-- ADD Vx,Vy, R126. -/
def execAddReg (x y : RegIdx) (s : State) : Answer :=
  .next (s.setRegFlag x (s.reg x + s.reg y) (carryFlag (s.reg x) (s.reg y)))

/-- SUB Vx,Vy, R127. -/
def execSubReg (x y : RegIdx) (s : State) : Answer :=
  .next (s.setRegFlag x (s.reg x - s.reg y) (noBorrowFlag (s.reg x) (s.reg y)))

/-- SHR Vx,Vy, R128. -/
def execShrReg (x y : RegIdx) (s : State) : Answer :=
  .next (s.setRegFlag x (s.shiftSource x y >>> 1) (shiftedOutRight (s.shiftSource x y)))

/-- SUBN Vx,Vy, R129. -/
def execSubnReg (x y : RegIdx) (s : State) : Answer :=
  .next (s.setRegFlag x (s.reg y - s.reg x) (noBorrowFlag (s.reg y) (s.reg x)))

/-- SHL Vx,Vy, R130. -/
def execShlReg (x y : RegIdx) (s : State) : Answer :=
  .next (s.setRegFlag x (s.shiftSource x y <<< 1) (shiftedOutLeft (s.shiftSource x y)))

/-- RND Vx,kk, R131: a free byte, fresh each time. -/
def execRnd (x : RegIdx) (kk : Byte) (s : State) : Answer := .next (s.setReg x (s.randomByte &&& kk)).drawn

end Sys2Proof.Machine
end

