-- ==== Sys2Proof/Machine/Cycle.lean ====
section
/-! DEFINITION. The cycle `RunCycle()` (40 R80), the other agents' steps (00_scope R5), and whose turn it is. Step.lean
only calls what stands here. -/

namespace Sys2Proof.Machine

/-- Step 1, the fetch: `MemRead(PC, 2)`, 40 R81. -/
def State.fetch (s : State) : Except Nat Word := s.readWord s.pc.toNat

/-- `RunCycle()`, 40 R80: nothing while halted (R87); a failing fetch is fatal and leaves `PC` (R81); else the opcode is
decoded (R82), `PC` advanced (R83) and the instruction executed (R84). -/
def runCycle (s : State) : Answer :=
  match s.run with
  | .halted => .next s
  | .running =>
    match s.fetch with
    | .error a => .next (s.abort .fetchOob 0 s.pc a)
    | .ok op => exec (decodeWord op) s.skip

/-- The tri-state result of a cycle, 40 R86. -/
inductive CycleResult where
  | ok
  | halt (cause : Cause)
  | fatal (cause : Cause)
  deriving DecidableEq, Repr

/-- The result `RunCycle` returns when it leaves this state: `Ok` while running; else the class and cause in `ERR`, which a
cycle while halted returns again (40 R86, R87). -/
def State.result (s : State) : CycleResult :=
  match s.run, s.err.cls with
  | .running, _ => .ok
  | .halted, .fatal => .fatal s.err.cause
  | .halted, _ => .halt s.err.cause

/-- `UpdateKeys()`, 50 R206. -/
def State.updateKeys (s : State) (keys : Vector Bool 16) : State := { s with keys := keys }

/-- The display consumer's step, 50 R204: the display is presented and `DIRTY` cleared. -/
def State.present (s : State) : State := { s with dirty := false }

/-- `Reset(fullSystemReset)`, 70 R261, R262. -/
def State.hostReset (s : State) (full : Bool) : State := if full then s.resetFull else s.resetCore

/-- `LoadRom(bytes)`, 20 R50: too long a program leaves the memory unchanged. -/
def State.loadRom (s : State) (bytes : List Byte) : State :=
  if bytes.length ≤ Config.romMax then (s.writeBytes Config.romOrigin bytes).1 else s

/-- One agent's step. -/
def takeTurn (t : Turn) (s : State) : Answer :=
  match t with
  | .runCycle => runCycle s
  | .decrementTimers => .next s.decrementTimers
  | .updateKeys keys => .next (s.updateKeys keys)
  | .present => .next s.present
  | .reset full => .next (s.hostReset full)
  | .loadRom bytes => .next (s.loadRom bytes)

/-- The next agent's step: the schedule's first turn, or the core's when the schedule is empty (assumption 11). The
configuration the spec gives no meaning is refused (43 R146, 60 R246; assumption 13). -/
def takeStep (s : State) : Answer :=
  if s.quirks.legal then
    match s.schedule with
    | [] => runCycle s
    | t :: rest => takeTurn t { s with schedule := rest }
  else .refused .bothMemoryQuirks

/-- A state whose next step is the core's, able to fetch: running, nobody else's turn, `PC` where two bytes can be
fetched, a configuration with a meaning. -/
def State.readyToFetch (s : State) : State :=
  { s with
    run := .running
    schedule := []
    pc := if s.pc.toNat + 1 < Config.memSize then s.pc else Config.pcReset
    quirks := if s.quirks.legal then s.quirks else { s.quirks with memoryLeaveIUnchanged := false } }

/-- The bytes of the opcode at `PC`. -/
def State.withWordAtPc (s : State) (op : Word) : State :=
  (s.writeBytes s.pc.toNat [op.extractLsb' 8 8, op.extractLsb' 0 8]).1

end Sys2Proof.Machine
end

