-- ==== Sys2Proof/Machine/Step.lean ====
section
/-! DEFINITION. One step of the machine, and a state that runs a given instruction next. -/

namespace Sys2Proof.Machine

/-- One step: the turn of the agent whose turn it is. -/
def step (s : State) : Host.Outcome State Fault Refusal := Sys2Proof.Machine.takeStep s

/-- `s` with the table word `w` stored where `step` fetches its next instruction; this stands for a program loaded from
outside (20 R50; assumption 15). -/
def State.withFetchWord (s : State) (nbits w : Nat) : State := s.readyToFetch.withWordAtPc (Sys2Proof.tableWord nbits w)

end Sys2Proof.Machine
end

