-- ==== Sys2Proof/Safety.lean ====
section
/-! DEFINITION. The terms claims are made in: how a run ends (60 R245), the invariant of the machine, what a step leaves
unchanged, the state an abort leaves, and the sprite and index formulas of the rules in closed form. -/

namespace Sys2Proof.Machine

/-- A clean end: halted by EXT or by the self-jump stop idiom (60 R245). -/
def State.cleanEnd (s : State) : Prop := s.run = .halted ∧ (s.err.cause = .exit ∨ s.err.cause = .endlessJump)

/-- A fault end: halted by any other cause (60 R245). -/
def State.faultEnd (s : State) : Prop := s.run = .halted ∧ s.err.cause ≠ .exit ∧ s.err.cause ≠ .endlessJump

/-- A safe state: no fault has ended the run. -/
def State.safe (s : State) : Prop := ¬ s.faultEnd

/-- What every reachable state satisfies. From the spec: the beeper is on exactly while the sound timer runs (R24); a
display without the capability is never extended (R22); `ERR` is clear while running and names a cause of its class while
halted (R18, R19); `PC` stays in the range of R13. The model's own: the memory is the canonical list (assumption 16); every
pixel stored outside the display is false (DESIGN CHOICE, assumption 17); no stack entry, in use or not, is above the
greatest address CALL can push (assumption 18). -/
structure State.Inv (s : State) : Prop where
  mem    : Memory.wf s.font s.mem = true
  beep   : s.beep = decide (0 < s.st.toNat)
  ext    : s.displaySchip = false → s.extMode = false
  pixels : ∀ x y, ¬ (x < s.width ∧ y < s.height) → s.pixel x y = false
  run    : s.run = .running → s.err = ErrorRecord.clear
  halted : s.run = .halted → s.err.cause ≠ .none ∧ s.err.cls = s.err.cause.cls
  pc     : s.pc.toNat ≤ 0x10FE
  stack  : ∀ k : Fin 16, (s.stack[k]).toNat ≤ 0x1000

/-- The parts of the state a frame speaks of. -/
inductive Part where
  | regs
  | index
  | pc
  | stack
  | memory
  | pixels
  | dirty
  | resolution
  | delay
  | sound
  | keys
  | status
  | parameters
  | draws
  | turns
  deriving DecidableEq, Repr

/-- The two states agree on a part: every register, every byte of memory, every pixel, and so on. -/
def Part.same (s t : State) : Part → Prop
  | .regs => ∀ j, t.reg j = s.reg j
  | .index => t.i = s.i
  | .pc => t.pc = s.pc
  | .stack => t.stack = s.stack ∧ t.sp = s.sp
  | .memory => ∀ a, t.readByte? a = s.readByte? a
  | .pixels => ∀ x y, t.pixel x y = s.pixel x y
  | .dirty => t.dirty = s.dirty
  | .resolution => t.extMode = s.extMode
  | .delay => t.dt = s.dt
  | .sound => t.st = s.st ∧ t.beep = s.beep
  | .keys => t.keys = s.keys
  | .status => t.run = s.run ∧ t.err = s.err
  | .parameters => t.quirks = s.quirks ∧ t.font = s.font ∧ t.displaySchip = s.displaySchip
  | .draws => t.draws = s.draws
  | .turns => t.schedule = s.schedule

/-- The frame: every part but those named is the same after as before. -/
def UnchangedBut (parts : List Part) (s t : State) : Prop := ∀ p : Part, p ∉ parts → p.same s t

/-- The state `s` is left in by an abort that changes `ERR` and `RUN` only, `ERR.maddr` 0 (60 R233, R234); during
execution `IA = PC - 2`. -/
def abortedWith (s : State) (cause : Cause) (cls : ErrClass) (opcode : Word) : State :=
  { s with run := .halted, err := { cause := cause, cls := cls, opcode := opcode, addr := s.pc - 2, maddr := 0 } }

/-- The error record of a memory fault inside an instruction, at the address `a` (60 R230, R233). -/
def memFaultRecord (s : State) (opcode : Word) (a : Nat) : ErrorRecord :=
  { cause := .memFault, cls := .halt, opcode := opcode, addr := s.pc - 2, maddr := BitVec.ofNat 17 a }

/-- The causes an instruction can fail with, 60 R232. -/
def failureCauses : Instr → List Cause
  | .ret => [.stackUnderflow]
  | .callAddr _ => [.stackOverflow]
  | .jpAddr _ => [.endlessJump]
  | .drw .. | .ldBVx _ | .ldMemVx _ | .ldVxMem _ => [.memFault]
  | .scr | .scl | .dsv _ | .hrs | .lrs => [.unsupported]
  | .ext => [.exit]
  | .illegal _ => [.illegal]
  | _ => []

/-- `IndexAfterBlock(I, x)` on the three legal rows of 43 R146, in exact arithmetic. -/
def blockIndex (q : Quirks) (i : Word) (x : RegIdx) : Nat :=
  if q.memoryLeaveIUnchanged then i.toNat
  else if q.memoryIncrementByX then (i.toNat + x.val) % 65536
  else (i.toNat + x.val + 1) % 65536

/-- The sprite drawn from `V[x]`, `V[y]` with `n` rows has a set bit, in a byte that can be read, that falls on the pixel
`(px, py)` of the display (44 R161). -/
def SpriteCovers (s : State) (x y : RegIdx) (n : Nat) (px py : Nat) : Prop :=
  ∃ r c b, r < n ∧ c < 8 ∧ s.readByte? (s.i.toNat + r) = some b ∧ b.getLsbD (7 - c) = true ∧
    (if s.quirks.wrapSprite then
      ((s.reg x).toNat % s.width + c) % s.width = px ∧ ((s.reg y).toNat % s.height + r) % s.height = py
    else (s.reg x).toNat % s.width + c = px ∧ (s.reg y).toNat % s.height + r = py)

end Sys2Proof.Machine
end

