-- ==== Sys2Proof/Certificates/Slice0/Obligations.lean ====
section
/-! DEFINITION. The statements for the provers. Each docstring names the rule of spec/ it formalises. In every statement
about `exec`, the state `s` is the state on entry to execution, so that `s.pc = IA + 2` (40 R83) and `s.pc - 2` is `IA`.
Where a docstring names an entry D<n> of 92_eei_decisions, or the spec's general knowledge, the clause is the spec's own decision
and not its source's; where it names an assumption <n>, it is the model's. -/

open Sys2Proof Sys2Proof.Machine

/-! ## Encoding -/

/-- R64, R66, R71 (the opcode values are the spec's general knowledge, D1): decoding the bytes of a well-formed
instruction gives it back, whatever bytes follow. -/
def Obligations.DecodeOfEncodeIsTheInstruction : Prop :=
  ∀ (i : Instr) (rest : List Byte), i.wf = true → decode (encodeBytes i ++ rest) = .ok (i, rest)

/-- R64, R71: every opcode decodes to a well-formed instruction whose opcode it is. -/
def Obligations.EncodeOfDecodeIsTheWord : Prop :=
  ∀ op : Word, (decodeWord op).wf = true ∧ encode (decodeWord op) = op

/-- R66 (the match and mask values are the spec's general knowledge, D1, D2, D3, and the places of the fields D28,
assumption 24): an opcode that matches a row's (match, mask) pair decodes to that row's family with the fields of R61;
one that matches no row decodes to the sentinel. -/
def Obligations.DecodeFollowsTheOpcodeMap : Prop :=
  ∀ op : Word,
    (op &&& 0xFFFF#16 = 0x00E0#16 → decodeWord op = .cls) ∧
    (op &&& 0xFFFF#16 = 0x00EE#16 → decodeWord op = .ret) ∧
    (op &&& 0xF000#16 = 0x1000#16 → decodeWord op = .jpAddr (fieldNNN op)) ∧
    (op &&& 0xF000#16 = 0x2000#16 → decodeWord op = .callAddr (fieldNNN op)) ∧
    (op &&& 0xF000#16 = 0x3000#16 → decodeWord op = .seImm (fieldX op) (fieldKK op)) ∧
    (op &&& 0xF000#16 = 0x4000#16 → decodeWord op = .sneImm (fieldX op) (fieldKK op)) ∧
    (op &&& 0xF00F#16 = 0x5000#16 → decodeWord op = .seReg (fieldX op) (fieldY op)) ∧
    (op &&& 0xF000#16 = 0x6000#16 → decodeWord op = .ldImm (fieldX op) (fieldKK op)) ∧
    (op &&& 0xF000#16 = 0x7000#16 → decodeWord op = .addImm (fieldX op) (fieldKK op)) ∧
    (op &&& 0xF00F#16 = 0x8000#16 → decodeWord op = .ldReg (fieldX op) (fieldY op)) ∧
    (op &&& 0xF00F#16 = 0x8001#16 → decodeWord op = .orReg (fieldX op) (fieldY op)) ∧
    (op &&& 0xF00F#16 = 0x8002#16 → decodeWord op = .andReg (fieldX op) (fieldY op)) ∧
    (op &&& 0xF00F#16 = 0x8003#16 → decodeWord op = .xorReg (fieldX op) (fieldY op)) ∧
    (op &&& 0xF00F#16 = 0x8004#16 → decodeWord op = .addReg (fieldX op) (fieldY op)) ∧
    (op &&& 0xF00F#16 = 0x8005#16 → decodeWord op = .subReg (fieldX op) (fieldY op)) ∧
    (op &&& 0xF00F#16 = 0x8006#16 → decodeWord op = .shrReg (fieldX op) (fieldY op)) ∧
    (op &&& 0xF00F#16 = 0x8007#16 → decodeWord op = .subnReg (fieldX op) (fieldY op)) ∧
    (op &&& 0xF00F#16 = 0x800E#16 → decodeWord op = .shlReg (fieldX op) (fieldY op)) ∧
    (op &&& 0xF00F#16 = 0x9000#16 → decodeWord op = .sneReg (fieldX op) (fieldY op)) ∧
    (op &&& 0xF000#16 = 0xA000#16 → decodeWord op = .ldIAddr (fieldNNN op)) ∧
    (op &&& 0xF000#16 = 0xB000#16 → decodeWord op = .jpV0 (fieldNNN op)) ∧
    (op &&& 0xF000#16 = 0xC000#16 → decodeWord op = .rnd (fieldX op) (fieldKK op)) ∧
    (op &&& 0xF000#16 = 0xD000#16 → decodeWord op = .drw (fieldX op) (fieldY op) (fieldN op)) ∧
    (op &&& 0xF0FF#16 = 0xE09E#16 → decodeWord op = .skp (fieldX op)) ∧
    (op &&& 0xF0FF#16 = 0xE0A1#16 → decodeWord op = .sknp (fieldX op)) ∧
    (op &&& 0xF0FF#16 = 0xF007#16 → decodeWord op = .ldVxDT (fieldX op)) ∧
    (op &&& 0xF0FF#16 = 0xF00A#16 → decodeWord op = .ldVxK (fieldX op)) ∧
    (op &&& 0xF0FF#16 = 0xF015#16 → decodeWord op = .ldDTVx (fieldX op)) ∧
    (op &&& 0xF0FF#16 = 0xF018#16 → decodeWord op = .ldSTVx (fieldX op)) ∧
    (op &&& 0xF0FF#16 = 0xF01E#16 → decodeWord op = .addIVx (fieldX op)) ∧
    (op &&& 0xF0FF#16 = 0xF029#16 → decodeWord op = .ldFVx (fieldX op)) ∧
    (op &&& 0xF0FF#16 = 0xF033#16 → decodeWord op = .ldBVx (fieldX op)) ∧
    (op &&& 0xF0FF#16 = 0xF055#16 → decodeWord op = .ldMemVx (fieldX op)) ∧
    (op &&& 0xF0FF#16 = 0xF065#16 → decodeWord op = .ldVxMem (fieldX op)) ∧
    (op &&& 0xFFF0#16 = 0x00C0#16 → decodeWord op = .dsv (fieldN op)) ∧
    (op &&& 0xFFFF#16 = 0x00FB#16 → decodeWord op = .scr) ∧
    (op &&& 0xFFFF#16 = 0x00FC#16 → decodeWord op = .scl) ∧
    (op &&& 0xFFFF#16 = 0x00FD#16 → decodeWord op = .ext) ∧
    (op &&& 0xFFFF#16 = 0x00FE#16 → decodeWord op = .lrs) ∧
    (op &&& 0xFFFF#16 = 0x00FF#16 → decodeWord op = .hrs) ∧
    ((∀ r ∈ opcodeMap, op &&& r.mask ≠ r.fixed) → decodeWord op = .illegal op)

/-- R67 (the exact masks are the spec's decision D3, assumption 24): the opcodes that decode to the sentinel are those
outside the legal values of the table by family nibble. -/
def Obligations.IllegalWordsAreThoseOutsideTheTable : Prop :=
  ∀ op : Word,
    decodeWord op = .illegal op ↔
      ¬ ((op.toNat / 4096 = 0 ∧ ((0x00C0 ≤ op.toNat ∧ op.toNat ≤ 0x00CF) ∨ op.toNat = 0x00E0 ∨ op.toNat = 0x00EE ∨
            (0x00FB ≤ op.toNat ∧ op.toNat ≤ 0x00FF))) ∨
          (op.toNat / 4096 = 5 ∧ op.toNat % 16 = 0) ∨
          (op.toNat / 4096 = 8 ∧ (op.toNat % 16 ≤ 7 ∨ op.toNat % 16 = 0xE)) ∨
          (op.toNat / 4096 = 9 ∧ op.toNat % 16 = 0) ∨
          (op.toNat / 4096 = 0xE ∧ (op.toNat % 256 = 0x9E ∨ op.toNat % 256 = 0xA1)) ∨
          (op.toNat / 4096 = 0xF ∧ op.toNat % 256 ∈ [0x07, 0x0A, 0x15, 0x18, 0x1E, 0x29, 0x33, 0x55, 0x65]) ∨
          op.toNat / 4096 ∈ [1, 2, 3, 4, 6, 7, 0xA, 0xB, 0xC, 0xD])

/-- R69, an inference the spec marks as its own, and R65: the 40 patterns are pairwise disjoint, so a row that matches is
the decoder's answer whatever its place; every mask fixes the family nibble. -/
def Obligations.PatternsArePairwiseDisjoint : Prop :=
  opcodeMap.length = 40 ∧ (∀ r ∈ opcodeMap, r.mask.extractLsb' 12 4 = 0xF#4) ∧
    opcodeMap.Pairwise (fun r q => ∀ op : Word, ¬ (op &&& r.mask = r.fixed ∧ op &&& q.mask = q.fixed)) ∧
    ∀ (op : Word) (r : OpcodeRow), r ∈ opcodeMap → op &&& r.mask = r.fixed → decodeWord op = r.bind op

/-- R66 (its values are the spec's general knowledge, D1), S1 to S9, T7 to T9: words written out bit by bit decode as the
spec says, at least one of each group of instructions. -/
def Obligations.WordsWrittenOutDecodeAsTheSpecSays : Prop :=
  decodeWord 0b0000000011100000#16 = .cls ∧
  decodeWord 0b0001001000000000#16 = .jpAddr 0x200#12 ∧
  decodeWord 0b1000101010110100#16 = .addReg 10 11 ∧
  decodeWord 0b1101000100101111#16 = .drw 1 2 15 ∧
  decodeWord 0b1011001000110100#16 = .jpV0 0x234#12 ∧
  decodeWord 0b1111001001010101#16 = .ldMemVx 2 ∧
  decodeWord 0b1111001100001010#16 = .ldVxK 3 ∧
  decodeWord 0b0000000100100011#16 = .illegal 0x0123#16

/-! ## Memory -/

/-- R42: a word read is big-endian where both bytes exist, and else names the first address out of bounds; a byte read
answers exactly below 4096. -/
def Obligations.ReadsAreBoundsCheckedAndBigEndian : Prop :=
  ∀ (s : State) (a : Nat),
    (a < 4096 → ∃ b, s.readByte? a = some b) ∧
    (4096 ≤ a → s.readByte? a = none ∧ s.readWord a = .error a) ∧
    (a + 1 < 4096 → ∃ hi lo w, s.readByte? a = some hi ∧ s.readByte? (a + 1) = some lo ∧ s.readWord a = .ok w ∧
      w.toNat = hi.toNat * 256 + lo.toNat) ∧
    (a + 1 = 4096 → s.readWord a = .error 4096)

/-- R43: a byte write changes exactly the byte written, and fails outside the memory. -/
def Obligations.ByteWriteChangesExactlyOneByte : Prop :=
  ∀ (s : State) (a : Nat) (b : Byte), Memory.wf s.font s.mem = true →
    (a < 4096 → ∃ t, s.writeByte? a b = some t ∧ t.readByte? a = some b ∧
      (∀ c, c ≠ a → t.readByte? c = s.readByte? c) ∧ UnchangedBut [.memory] s t) ∧
    (4096 ≤ a → s.writeByte? a b = none)

/-- R20 (the form is the model's, assumption 16): two canonical memories that read alike are equal. -/
def Obligations.CanonicalMemoriesThatReadAlikeAreEqual : Prop :=
  ∀ (f : Font) (m n : Memory), Memory.wf f m = true → Memory.wf f n = true →
    (∀ a, a < 4096 → Memory.get f m a = Memory.get f n a) → m = n

/-- R56, an inference the spec marks as its own, from R144: a store is seen by the next fetch from the place stored to. -/
def Obligations.StoredBytesAreFetchedNext : Prop :=
  ∀ s : State, Memory.wf s.font s.mem = true → s.quirks.legal = true → s.i.toNat + 1 < 4096 →
    ∃ t w, exec (.ldMemVx 1) s = .next t ∧ (t.setPc s.i).fetch = .ok w ∧
      w.toNat = (s.reg 0).toNat * 256 + (s.reg 1).toNat

/-! ## The cycle -/

/-- R80, R82, R83, R84 (whose turn it is is the model's, assumption 11): when it is the core's turn and the two bytes at
`PC` can be read, the step is the execution of the decoded instruction with `PC` advanced by 2. -/
def Obligations.StepRunsTheDecodedInstruction : Prop :=
  ∀ (s : State) (hi lo : Byte), s.quirks.legal = true → s.run = .running →
    s.readByte? s.pc.toNat = some hi → s.readByte? (s.pc.toNat + 1) = some lo →
    (s.schedule = [] →
      step s = exec (decodeWord (wordOfBytes hi lo)) { s with pc := s.pc + 2 }) ∧
    (∀ rest, s.schedule = .runCycle :: rest →
      step s = exec (decodeWord (wordOfBytes hi lo)) { s with pc := s.pc + 2, schedule := rest })

/-- R81: the fetch succeeds exactly when `PC <= 4094`, with the memory as it is now; else the cycle is fatal and changes
`ERR` and `RUN` only. -/
def Obligations.FetchSucceedsExactlyBelowTheEnd : Prop :=
  ∀ s : State, s.run = .running →
    (s.pc.toNat ≤ 4094 → ∃ hi lo w, s.readByte? s.pc.toNat = some hi ∧ s.readByte? (s.pc.toNat + 1) = some lo ∧
      s.fetch = .ok w ∧ w.toNat = hi.toNat * 256 + lo.toNat ∧ runCycle s = exec (decodeWord w) { s with pc := s.pc + 2 }) ∧
    (4095 ≤ s.pc.toNat →
      runCycle s = .next { s with
        run := .halted
        err := { cause := .fetchOob, cls := .fatal, opcode := 0, addr := s.pc,
                 maddr := BitVec.ofNat 17 (if 4096 ≤ s.pc.toNat then s.pc.toNat else s.pc.toNat + 1) } })

/-- R87 (the spec's decision D6, assumption 12): a cycle while halted changes nothing and returns the stored result; no
agent's step but the host's reset leaves the halted state or changes `ERR`. -/
def Obligations.HaltedCoreDoesNothingUntilReset : Prop :=
  ∀ s : State, s.run = .halted →
    runCycle s = .next s ∧
    (s.err.cls = .fatal → s.result = .fatal s.err.cause) ∧ (s.err.cls = .halt → s.result = .halt s.err.cause) ∧
    ∀ turn t, takeTurn turn s = .next t → (∀ full, turn ≠ .reset full) → t.run = .halted ∧ t.err = s.err

/-- The order of the agents' steps is the model's own plain data (DESIGN CHOICE, assumption 11; the agents are 00_scope
R5): the step is the first scheduled turn, or the core's cycle when nothing is scheduled. -/
def Obligations.StepTakesTheFirstScheduledTurn : Prop :=
  ∀ s : State, s.quirks.legal = true →
    (s.schedule = [] → step s = runCycle s) ∧
    ∀ turn rest, s.schedule = turn :: rest → step s = takeTurn turn { s with schedule := rest }

/-- R260 (the spec's decision D25): the machine as the host's construction leaves it, for every choice of the parameters. -/
def Obligations.ConstructionLeavesTheStatedValues : Prop :=
  ∀ (q : Quirks) (f : Font) (e : Bool),
    let s := State.construct q f e
    (∀ j, s.reg j = 0) ∧ s.i = 0 ∧ s.pc = 0x200#16 ∧ (∀ k : Fin 16, s.stack[k] = 0) ∧ s.sp = 0 ∧
    s.run = .running ∧ s.err = { cause := .none, cls := .none, opcode := 0, addr := 0, maddr := 0 } ∧
    (∀ k : Fin 80, s.readByte? (f.base.val + k.val) = some (f.glyphs[k])) ∧
    (∀ a, a < 4096 → (a < f.base.val ∨ f.base.val + 80 ≤ a) → s.readByte? a = some 0) ∧
    (∀ x y, s.pixel x y = false) ∧ s.width = 64 ∧ s.height = 32 ∧ s.dirty = false ∧
    s.dt = 0 ∧ s.st = 0 ∧ s.beep = false ∧ s.quirks = q ∧ s.font = f ∧ s.displaySchip = e

/-- Construction (R260, the spec's decision D25) leaves a state that meets the invariant. Of the invariant's clauses the
spec gives, at construction: `beep` (R24), `ext` (R22), `run` and `halted` (R18, R19), `pc` (R13). The model's own: `mem`, the
canonical list (assumption 16), `pixels`, the storage outside the display (DESIGN CHOICE, assumption 17), and `stack`, which
bounds the entries not in use too (assumption 18). -/
def Obligations.ConstructionMeetsTheInvariant : Prop :=
  ∀ (q : Quirks) (f : Font) (e : Bool), (State.construct q f e).Inv

/-- Every step, of whichever agent, keeps the invariant. Its clauses `beep` (R24) and `pc` (R13) are inferences the spec
marks as its own, `ext` is R22's, `run` and `halted` are R18's and R19's, by the spec's decisions D6, D7 and D20. The model's
own: `mem`, the canonical list (assumption 16), `pixels`, the storage outside the display (DESIGN CHOICE, assumption 17), and
`stack`, which bounds the entries not in use too (assumption 18); no rule says these three. -/
def Obligations.EveryStepKeepsTheInvariant : Prop :=
  ∀ s t : State, s.Inv → step s = .next t → t.Inv

/-- R17, R26 (a constant of a run by the spec's decision D12, assumption 19): no step changes the quirks, the font or the
display capability. -/
def Obligations.NoStepChangesTheParameters : Prop :=
  ∀ s t : State, step s = .next t → t.quirks = s.quirks ∧ t.font = s.font ∧ t.displaySchip = s.displaySchip

/-- R232, an inference the spec marks as its own: an instruction fails only with the cause listed for it, and the 27
families that cannot fail complete. -/
def Obligations.InstructionsFailOnlyAsListed : Prop :=
  ∀ (i : Instr) (s : State),
    (failureCauses i = [] → ∃ t, exec i s = .next t ∧ t.run = s.run ∧ t.err = s.err) ∧
    ∀ t, exec i s = .next t →
      (t.run = s.run ∧ t.err = s.err) ∨ (t.run = .halted ∧ t.err.cause ∈ failureCauses i)

/-- R233, R234 (what is kept is the spec's decision D10, assumptions 22 and 25): an instruction that fails records its
opcode, `IA` and the class of its cause, with a memory address for a memory fault only, and leaves `PC`, `I` and the
stack as they were. -/
def Obligations.AbortRecordsTheFailingInstruction : Prop :=
  ∀ (i : Instr) (s t : State), s.run = .running → exec i s = .next t → t.run = .halted →
    t.err.opcode = encode i ∧ t.err.addr = s.pc - 2 ∧
    (t.err.cls = .fatal ↔ (i = .ret ∨ ∃ a, i = .callAddr a)) ∧ (t.err.cls = .fatal ∨ t.err.cls = .halt) ∧
    (t.err.cause ≠ .memFault → t.err.maddr = 0 ∧ UnchangedBut [.status] s t) ∧
    (t.err.cause = .memFault → 4096 ≤ t.err.maddr.toNat ∧ s.i.toNat ≤ t.err.maddr.toNat ∧
      t.err.maddr.toNat ≤ s.i.toNat + 15) ∧
    UnchangedBut [.status, .memory, .regs, .pixels, .dirty, .draws] s t

/-- R245 (the spec's decision D26): a cycle that ends the run ends it cleanly exactly when its instruction is EXT or a
caught self-jump. -/
def Obligations.CleanEndsAreExitAndSelfJump : Prop :=
  ∀ s t : State, s.run = .running → runCycle s = .next t → t.run = .halted →
    (t.cleanEnd ↔ ∃ op, s.fetch = .ok op ∧
      (decodeWord op = .ext ∨
        ∃ nnn, decodeWord op = .jpAddr nnn ∧ s.quirks.catchEndlessJump = true ∧ nnn.toNat = s.pc.toNat))

/-- R17 (the spec's decision D13): the `vBlank` flag is read by no rule: an instruction does the same whatever it is. -/
def Obligations.VBlankQuirkHasNoEffect : Prop :=
  ∀ (i : Instr) (s t : State) (b : Bool), exec i s = .next t →
    exec i { s with quirks := { s.quirks with vBlank := b } } = .next { t with quirks := { t.quirks with vBlank := b } }

/-- R204 (the spec's decision D30): no instruction reads `DIRTY`, so the display consumer is invisible to a program. -/
def Obligations.DirtyFlagIsInvisibleToPrograms : Prop :=
  ∀ (i : Instr) (s t : State) (b : Bool), exec i s = .next t →
    ∃ u, exec i { s with dirty := b } = .next u ∧ { u with dirty := t.dirty } = t

/-- R24, R207: no instruction reads `ST` or `BEEP`. -/
def Obligations.SoundTimerIsNeverRead : Prop :=
  ∀ (i : Instr) (s t : State) (n : Byte) (b : Bool), exec i s = .next t →
    ∃ u, exec i { s with st := n, beep := b } = .next u ∧ { u with st := t.st, beep := t.beep } = t

/-! ## Control transfer -/

/-- R100: RET pops the stack into `PC`; with no entry in use it is fatal. -/
def Obligations.RetPopsTheStackIntoPc : Prop :=
  ∀ s : State,
    (s.sp.val = 0 → exec .ret s = .next (abortedWith s .stackUnderflow .fatal (encode .ret))) ∧
    ∀ k : Fin 16, s.sp.val = k.val + 1 →
      ∃ t, exec .ret s = .next t ∧ t.pc = s.stack[k] ∧ t.sp.val = k.val ∧ t.stack = s.stack ∧
        UnchangedBut [.pc, .stack] s t

/-- R101: JP sets `PC`, or halts when it jumps to itself and the quirk is on. -/
def Obligations.JpSetsPcOrCatchesTheSelfJump : Prop :=
  ∀ (nnn : BitVec 12) (s : State),
    (s.quirks.catchEndlessJump = true ∧ nnn.toNat = (s.pc - 2).toNat →
      ∃ t, exec (.jpAddr nnn) s = .next t ∧ t = abortedWith s .endlessJump .halt (encode (.jpAddr nnn)) ∧ t.cleanEnd) ∧
    (¬ (s.quirks.catchEndlessJump = true ∧ nnn.toNat = (s.pc - 2).toNat) →
      ∃ t, exec (.jpAddr nnn) s = .next t ∧ t.pc.toNat = nnn.toNat ∧ UnchangedBut [.pc] s t)

/-- R102: CALL pushes the address of the next instruction and sets `PC`; with 16 entries in use it is fatal. -/
def Obligations.CallPushesTheReturnAddress : Prop :=
  ∀ (nnn : BitVec 12) (s : State),
    (s.sp.val = 16 → exec (.callAddr nnn) s = .next (abortedWith s .stackOverflow .fatal (encode (.callAddr nnn)))) ∧
    ∀ k : Fin 16, s.sp.val = k.val →
      ∃ t, exec (.callAddr nnn) s = .next t ∧ t.pc.toNat = nnn.toNat ∧ t.sp.val = k.val + 1 ∧ t.stack[k] = s.pc ∧
        (∀ j : Fin 16, j ≠ k → t.stack[j] = s.stack[j]) ∧ UnchangedBut [.pc, .stack] s t

/-- S5, from R102 and R100: CALL and then RET returns to the instruction after the CALL, with the same `SP`; nothing has
changed but the entry the CALL wrote. -/
def Obligations.CallThenRetReturnsAfterTheCall : Prop :=
  ∀ (nnn : BitVec 12) (s : State) (w : Word), s.sp.val < 16 →
    ∃ t u, exec (.callAddr nnn) s = .next t ∧ exec .ret (t.setPc w) = .next u ∧ u.pc = s.pc ∧ u.sp = s.sp ∧
      (∀ j : Fin 16, j.val ≠ s.sp.val → u.stack[j] = s.stack[j]) ∧ UnchangedBut [.stack] s u

/-- R103, R105, R106: the compare-and-skip instructions skip exactly when their condition holds. -/
def Obligations.CompareSkipsMoveOnlyPc : Prop :=
  ∀ (x y : RegIdx) (kk : Byte) (s : State),
    (∃ t, exec (.seImm x kk) s = .next t ∧ t.pc.toNat = (s.pc.toNat + if (s.reg x).toNat = kk.toNat then 2 else 0) % 65536 ∧
      UnchangedBut [.pc] s t) ∧
    (∃ t, exec (.seReg x y) s = .next t ∧
      t.pc.toNat = (s.pc.toNat + if (s.reg x).toNat = (s.reg y).toNat then 2 else 0) % 65536 ∧ UnchangedBut [.pc] s t) ∧
    (∃ t, exec (.sneReg x y) s = .next t ∧
      t.pc.toNat = (s.pc.toNat + if (s.reg x).toNat = (s.reg y).toNat then 0 else 2) % 65536 ∧ UnchangedBut [.pc] s t)

/-- R104, which the spec infers (the instruction is its general knowledge, D2, assumption 24): SNE Vx,kk skips exactly
when the register differs from the immediate. -/
def Obligations.SneImmediateSkipsWhenDifferent : Prop :=
  ∀ (x : RegIdx) (kk : Byte) (s : State),
    ∃ t, exec (.sneImm x kk) s = .next t ∧
      t.pc.toNat = (s.pc.toNat + if (s.reg x).toNat = kk.toNat then 0 else 2) % 65536 ∧ UnchangedBut [.pc] s t

/-- R107 (that the sum is not reduced to 12 bits is the spec's decision D22): JP V0 adds the register the quirk selects to
the whole address, not reduced to 12 bits. -/
def Obligations.JpV0AddsTheSelectedRegister : Prop :=
  ∀ (nnn : BitVec 12) (k : RegIdx) (s : State), k.val = nnn.toNat / 256 →
    ∃ t, exec (.jpV0 nnn) s = .next t ∧
      t.pc.toNat = nnn.toNat + (if s.quirks.jump then (s.reg k).toNat else (s.reg 0).toNat) ∧ UnchangedBut [.pc] s t

/-! ## Load and ALU: the value of every register after each instruction -/

/-- R120, R121, R122: LD Vx,kk, ADD Vx,kk (no carry recorded) and LD Vx,Vy write `V[x]` alone. -/
def Obligations.LoadsAndAddImmediateWriteOneRegister : Prop :=
  ∀ (x y : RegIdx) (kk : Byte) (s : State),
    (∃ t, exec (.ldImm x kk) s = .next t ∧ (∀ j, t.reg j = if j = x then kk else s.reg j) ∧ UnchangedBut [.regs] s t) ∧
    (∃ t, exec (.addImm x kk) s = .next t ∧
      (∀ j, t.reg j = if j = x then BitVec.ofNat 8 (((s.reg x).toNat + kk.toNat) % 256) else s.reg j) ∧
      UnchangedBut [.regs] s t) ∧
    (∃ t, exec (.ldReg x y) s = .next t ∧ (∀ j, t.reg j = if j = x then s.reg y else s.reg j) ∧ UnchangedBut [.regs] s t)

/-- R123, R124, R125: OR, AND, XOR combine bit by bit into `V[x]`; VF is 0 afterwards when `Q.VFreset`. -/
def Obligations.LogicCombinesBitsAndResetsVf : Prop :=
  ∀ (x y : RegIdx) (s : State),
    (∃ t, exec (.orReg x y) s = .next t ∧ UnchangedBut [.regs] s t ∧
      ∀ j, t.reg j =
        if s.quirks.vfReset = true ∧ j = 15 then 0 else if j = x then s.reg x ||| s.reg y else s.reg j) ∧
    (∃ t, exec (.andReg x y) s = .next t ∧ UnchangedBut [.regs] s t ∧
      ∀ j, t.reg j =
        if s.quirks.vfReset = true ∧ j = 15 then 0 else if j = x then s.reg x &&& s.reg y else s.reg j) ∧
    (∃ t, exec (.xorReg x y) s = .next t ∧ UnchangedBut [.regs] s t ∧
      ∀ j, t.reg j =
        if s.quirks.vfReset = true ∧ j = 15 then 0 else if j = x then s.reg x ^^^ s.reg y else s.reg j)

/-- R126: ADD Vx,Vy writes the sum modulo 256 and then the carry to VF. -/
def Obligations.AddWritesSumThenCarry : Prop :=
  ∀ (x y : RegIdx) (s : State),
    ∃ t, exec (.addReg x y) s = .next t ∧ UnchangedBut [.regs] s t ∧
      ∀ j, t.reg j =
        if j = 15 then (if (s.reg x).toNat + (s.reg y).toNat > 255 then 1 else 0)
        else if j = x then BitVec.ofNat 8 (((s.reg x).toNat + (s.reg y).toNat) % 256)
        else s.reg j

/-- R127, R129: SUB and SUBN write the difference modulo 256 and then "no borrow" to VF. -/
def Obligations.SubtractionsWriteDifferenceThenNoBorrow : Prop :=
  ∀ (x y : RegIdx) (s : State),
    (∃ t, exec (.subReg x y) s = .next t ∧ UnchangedBut [.regs] s t ∧
      ∀ j, t.reg j =
        if j = 15 then (if (s.reg x).toNat ≥ (s.reg y).toNat then 1 else 0)
        else if j = x then BitVec.ofNat 8 (((s.reg x).toNat + 256 - (s.reg y).toNat) % 256)
        else s.reg j) ∧
    (∃ t, exec (.subnReg x y) s = .next t ∧ UnchangedBut [.regs] s t ∧
      ∀ j, t.reg j =
        if j = 15 then (if (s.reg y).toNat ≥ (s.reg x).toNat then 1 else 0)
        else if j = x then BitVec.ofNat 8 (((s.reg y).toNat + 256 - (s.reg x).toNat) % 256)
        else s.reg j)

/-- R128, R130: SHR and SHL shift the register the quirk selects by one and write the bit moved out to VF. -/
def Obligations.ShiftsWriteResultThenBitShiftedOut : Prop :=
  ∀ (x y : RegIdx) (s : State) (b : Byte), b = (if s.quirks.shift then s.reg x else s.reg y) →
    (∃ t, exec (.shrReg x y) s = .next t ∧ UnchangedBut [.regs] s t ∧
      ∀ j, t.reg j =
        if j = 15 then BitVec.ofNat 8 (b.toNat % 2) else if j = x then BitVec.ofNat 8 (b.toNat / 2) else s.reg j) ∧
    (∃ t, exec (.shlReg x y) s = .next t ∧ UnchangedBut [.regs] s t ∧
      ∀ j, t.reg j =
        if j = 15 then BitVec.ofNat 8 (b.toNat / 128) else if j = x then BitVec.ofNat 8 (b.toNat * 2 % 256) else s.reg j)

/-- R131 (a fresh draw is the spec's decision D16, assumption 6): RND writes some byte AND `kk`, whatever byte was drawn,
from a fresh draw; `V[x]` has no bit outside `kk`. -/
def Obligations.RndMasksAFreshByte : Prop :=
  ∀ (x : RegIdx) (kk : Byte) (s : State),
    ∃ t, exec (.rnd x kk) s = .next t ∧ t.draws = s.draws + 1 ∧
      (∃ r : Byte, ∀ j, t.reg j = if j = x then r &&& kk else s.reg j) ∧
      (∀ k, kk.getLsbD k = false → (t.reg x).getLsbD k = false) ∧ (t.reg x).toNat ≤ kk.toNat ∧
      UnchangedBut [.regs, .draws] s t

/-! ## Index and memory -/

/-- R140, R142: LD I,addr and LD F,Vx (the glyph of the low nibble) write `I` alone. -/
def Obligations.IndexLoadsWriteOnlyI : Prop :=
  ∀ (nnn : BitVec 12) (x : RegIdx) (s : State),
    (∃ t, exec (.ldIAddr nnn) s = .next t ∧ t.i.toNat = nnn.toNat ∧ UnchangedBut [.index] s t) ∧
    (∃ t, exec (.ldFVx x) s = .next t ∧ t.i.toNat = s.font.base.val + 5 * ((s.reg x).toNat % 16) ∧
      UnchangedBut [.index] s t)

/-- R141 (the wrap at 65536 is the spec's decision D22): ADD I,Vx adds modulo 65536 and writes `I` alone, VF not. -/
def Obligations.AddToIndexWritesOnlyI : Prop :=
  ∀ (x : RegIdx) (s : State),
    ∃ t, exec (.addIVx x) s = .next t ∧ t.i.toNat = (s.i.toNat + (s.reg x).toNat) % 65536 ∧ UnchangedBut [.index] s t

/-- R143 (the order of the digits is the spec's decision D23, what a failing store keeps D10, assumptions 24 and 25): LD B
stores the three digits, hundreds first; past the end it stores those that fit and raises the fault. -/
def Obligations.BcdStoresThreeDigits : Prop :=
  ∀ (x : RegIdx) (s : State), Memory.wf s.font s.mem = true →
    let digit := fun k : Nat =>
      BitVec.ofNat 8 (if k = 0 then (s.reg x).toNat / 100 else if k = 1 then (s.reg x).toNat / 10 % 10 else (s.reg x).toNat % 10)
    ∃ t, exec (.ldBVx x) s = .next t ∧
      (∀ k, k < 3 → s.i.toNat + k < 4096 → t.readByte? (s.i.toNat + k) = some (digit k)) ∧
      (∀ a, (a < s.i.toNat ∨ s.i.toNat + 3 ≤ a) → t.readByte? a = s.readByte? a) ∧
      (s.i.toNat + 2 < 4096 → UnchangedBut [.memory] s t) ∧
      (4096 ≤ s.i.toNat + 2 → t.run = .halted ∧ t.err = memFaultRecord s (encode (.ldBVx x)) (max s.i.toNat 4096) ∧
        UnchangedBut [.memory, .status] s t)

/-- R144 (what a failing store keeps is the spec's decision D10, assumption 25): LD [I],Vx stores V0 to Vx and then
updates `I`; past the end it stores those that fit, leaves `I` and raises the fault. -/
def Obligations.BlockStoreWritesV0ToVx : Prop :=
  ∀ (x : RegIdx) (s : State), Memory.wf s.font s.mem = true → s.quirks.legal = true →
    ∃ t, exec (.ldMemVx x) s = .next t ∧
      (∀ k : RegIdx, k ≤ x → s.i.toNat + k.val < 4096 → t.readByte? (s.i.toNat + k.val) = some (s.reg k)) ∧
      (∀ a, (a < s.i.toNat ∨ s.i.toNat + x.val + 1 ≤ a) → t.readByte? a = s.readByte? a) ∧
      (s.i.toNat + x.val < 4096 → t.i.toNat = blockIndex s.quirks s.i x ∧ UnchangedBut [.memory, .index] s t) ∧
      (4096 ≤ s.i.toNat + x.val → t.run = .halted ∧
        t.err = memFaultRecord s (encode (.ldMemVx x)) (max s.i.toNat 4096) ∧ UnchangedBut [.memory, .status] s t)

/-- R145 (what a failing load keeps is the spec's decision D10, assumption 25): LD Vx,[I] loads V0 to Vx and then updates
`I`; past the end it loads those that exist, leaves `I` and raises the fault. -/
def Obligations.BlockLoadReadsV0ToVx : Prop :=
  ∀ (x : RegIdx) (s : State), s.quirks.legal = true →
    ∃ t, exec (.ldVxMem x) s = .next t ∧
      (∀ k : RegIdx, k ≤ x → s.i.toNat + k.val < 4096 → s.readByte? (s.i.toNat + k.val) = some (t.reg k)) ∧
      (∀ k : RegIdx, x < k ∨ 4096 ≤ s.i.toNat + k.val → t.reg k = s.reg k) ∧
      (s.i.toNat + x.val < 4096 → t.i.toNat = blockIndex s.quirks s.i x ∧ UnchangedBut [.regs, .index] s t) ∧
      (4096 ≤ s.i.toNat + x.val → t.run = .halted ∧
        t.err = memFaultRecord s (encode (.ldVxMem x)) (max s.i.toNat 4096) ∧ UnchangedBut [.regs, .status] s t)

/-- R146 (the spec's decision D11, assumption 13): `I` after a completed block transfer, by the two memory quirks; the
configuration with both is refused. -/
def Obligations.BlockTransfersUpdateIndexByQuirks : Prop :=
  ∀ (x : RegIdx) (s : State) (i : Instr), i = .ldMemVx x ∨ i = .ldVxMem x →
    (s.quirks.memoryIncrementByX = true → s.quirks.memoryLeaveIUnchanged = true →
      exec i s = .refused .bothMemoryQuirks ∧ step s = .refused .bothMemoryQuirks) ∧
    (s.i.toNat + x.val < 4096 →
      (s.quirks.memoryIncrementByX = false → s.quirks.memoryLeaveIUnchanged = false →
        ∃ t, exec i s = .next t ∧ t.i.toNat = (s.i.toNat + x.val + 1) % 65536) ∧
      (s.quirks.memoryIncrementByX = true → s.quirks.memoryLeaveIUnchanged = false →
        ∃ t, exec i s = .next t ∧ t.i.toNat = (s.i.toNat + x.val) % 65536) ∧
      (s.quirks.memoryIncrementByX = false → s.quirks.memoryLeaveIUnchanged = true →
        ∃ t, exec i s = .next t ∧ t.i = s.i))

/-- From R144 and R145: storing V0 to Vx and loading them back from the same place restores them. -/
def Obligations.BlockStoreThenLoadRestoresRegisters : Prop :=
  ∀ (x : RegIdx) (s : State) (v : Vector Byte 16), Memory.wf s.font s.mem = true → s.quirks.legal = true →
    s.i.toNat + x.val < 4096 →
    ∃ t u, exec (.ldMemVx x) s = .next t ∧ exec (.ldVxMem x) { t with v := v, i := s.i } = .next u ∧
      (∀ k : RegIdx, k ≤ x → u.reg k = s.reg k) ∧ (∀ k : RegIdx, x < k → u.reg k = v[k])

/-! ## Display -/

/-- R160: CLS clears every pixel and sets `DIRTY`. -/
def Obligations.ClsClearsEveryPixel : Prop :=
  ∀ s : State, ∃ t, exec .cls s = .next t ∧ (∀ x y, t.pixel x y = false) ∧ t.dirty = true ∧
    UnchangedBut [.pixels, .dirty] s t

/-- R161 (the orientation is the spec's decision D23, an aborted draw D10, assumptions 9 and 24): DRW toggles exactly the
pixels the sprite's readable rows cover; a completed draw sets VF to the collision and `DIRTY`; a draw that leaves the
memory raises the fault at the first bad address, VF and `DIRTY` being unspecified. -/
def Obligations.DrwTogglesThePixelsTheSpriteCovers : Prop :=
  ∀ (x y : RegIdx) (n : Fin 16) (s : State),
    ∃ t, exec (.drw x y n) s = .next t ∧
      (∀ px py, px < s.width → py < s.height →
        (t.pixel px py = true ↔ ¬ (s.pixel px py = true ↔ SpriteCovers s x y n.val px py))) ∧
      (∀ px py, ¬ (px < s.width ∧ py < s.height) → t.pixel px py = s.pixel px py) ∧
      (∀ j, j ≠ 15 → t.reg j = s.reg j) ∧
      (n.val = 0 ∨ s.i.toNat + n.val ≤ 4096 →
        ((∃ px py, px < s.width ∧ py < s.height ∧ s.pixel px py = true ∧ SpriteCovers s x y n.val px py) → t.reg 15 = 1) ∧
        ((¬ ∃ px py, px < s.width ∧ py < s.height ∧ s.pixel px py = true ∧ SpriteCovers s x y n.val px py) → t.reg 15 = 0) ∧
        t.dirty = true ∧ UnchangedBut [.pixels, .regs, .dirty] s t) ∧
      (¬ (n.val = 0 ∨ s.i.toNat + n.val ≤ 4096) →
        t.run = .halted ∧ t.err = memFaultRecord s (encode (.drw x y n)) (max s.i.toNat 4096) ∧
        UnchangedBut [.pixels, .regs, .dirty, .status, .draws] s t)

/-- S4, from R161: drawing the same sprite twice restores every pixel, and VF is 1 after the second draw when the first
drew a pixel on a clear display. -/
def Obligations.DrawingTwiceRestoresTheDisplay : Prop :=
  ∀ (x y : RegIdx) (n : Fin 16) (s : State), x ≠ 15 → y ≠ 15 → n.val = 0 ∨ s.i.toNat + n.val ≤ 4096 →
    ∃ t u, exec (.drw x y n) s = .next t ∧ exec (.drw x y n) t = .next u ∧ (∀ px py, u.pixel px py = s.pixel px py) ∧
      ((∀ px py, s.pixel px py = false) →
        t.reg 15 = 0 ∧ (∀ px py, px < s.width → py < s.height → t.pixel px py = true → u.reg 15 = 1))

/-- R162, R163, R164 (the amounts are the spec's decision D17, the capability D18): the scrolls move every pixel of the
display and fill with false; without the capability they halt. -/
def Obligations.ScrollsMoveEveryPixel : Prop :=
  ∀ (n : Fin 16) (s : State),
    (s.displaySchip = false →
      exec .scr s = .next (abortedWith s .unsupported .halt (encode .scr)) ∧
      exec .scl s = .next (abortedWith s .unsupported .halt (encode .scl)) ∧
      exec (.dsv n) s = .next (abortedWith s .unsupported .halt (encode (.dsv n)))) ∧
    (s.displaySchip = true → ∀ k m : Nat, k = (if s.extMode then 8 else 4) → m = (if s.extMode then n.val % 16 else n.val % 8) →
      (∃ t, exec .scr s = .next t ∧ t.dirty = true ∧ UnchangedBut [.pixels, .dirty] s t ∧
        ∀ px py, px < s.width → py < s.height → t.pixel px py = if k ≤ px then s.pixel (px - k) py else false) ∧
      (∃ t, exec .scl s = .next t ∧ t.dirty = true ∧ UnchangedBut [.pixels, .dirty] s t ∧
        ∀ px py, px < s.width → py < s.height → t.pixel px py = if px + k < s.width then s.pixel (px + k) py else false) ∧
      (∃ t, exec (.dsv n) s = .next t ∧ t.dirty = true ∧ UnchangedBut [.pixels, .dirty] s t ∧
        ∀ px py, px < s.width → py < s.height → t.pixel px py = if m ≤ py then s.pixel px (py - m) else false))

/-- R165, R166 (the spec's decisions D17 and D18, assumption 10): HRS and LRS set the resolution and `DIRTY`, whatever the
pixels become; without the capability they halt. -/
def Obligations.ResolutionSwitchSetsTheSize : Prop :=
  ∀ s : State,
    (s.displaySchip = false →
      exec .hrs s = .next (abortedWith s .unsupported .halt (encode .hrs)) ∧
      exec .lrs s = .next (abortedWith s .unsupported .halt (encode .lrs))) ∧
    (s.displaySchip = true →
      (∃ t, exec .hrs s = .next t ∧ t.extMode = true ∧ t.width = 128 ∧ t.height = 64 ∧ t.dirty = true ∧
        UnchangedBut [.pixels, .dirty, .resolution, .draws] s t) ∧
      (∃ t, exec .lrs s = .next t ∧ t.extMode = false ∧ t.width = 64 ∧ t.height = 32 ∧ t.dirty = true ∧
        UnchangedBut [.pixels, .dirty, .resolution, .draws] s t))

/-! ## Keypad, timers, system -/

/-- R180, R181 (level-triggered by the spec's decision D15, assumption 7): SKP and SKNP test the key as it is now; for a
key number above 15 they go either way; of the two exactly one skips for a key of the keypad. -/
def Obligations.KeySkipsTestTheKeyState : Prop :=
  ∀ (x : RegIdx) (s : State),
    ∃ t u, exec (.skp x) s = .next t ∧ exec (.sknp x) s = .next u ∧
      (∀ k : Fin 16, (s.reg x).toNat = k.val →
        t.pc = (if s.keys[k] then s.pc + 2 else s.pc) ∧ u.pc = (if s.keys[k] then s.pc else s.pc + 2) ∧
        UnchangedBut [.pc] s t ∧ UnchangedBut [.pc] s u) ∧
      (15 < (s.reg x).toNat → (t.pc = s.pc ∨ t.pc = s.pc + 2) ∧ (u.pc = s.pc ∨ u.pc = s.pc + 2)) ∧
      UnchangedBut [.pc, .draws] s t ∧ UnchangedBut [.pc, .draws] s u

/-- R182 (a key that is down, by the spec's decision D15, assumption 8): LD Vx,K loads a key that is down, or steps back
to be fetched again when none is. -/
def Obligations.KeyWaitLoadsADownKeyOrRepeats : Prop :=
  ∀ (x : RegIdx) (s : State),
    ∃ t, exec (.ldVxK x) s = .next t ∧
      ((∃ k : Fin 16, s.keys[k] = true) →
        (∃ k : Fin 16, s.keys[k] = true ∧ ∀ j, t.reg j = if j = x then BitVec.ofNat 8 k.val else s.reg j) ∧
        UnchangedBut [.regs, .draws] s t) ∧
      ((∀ k : Fin 16, s.keys[k] = false) → t.pc = s.pc - 2 ∧ UnchangedBut [.pc] s t)

/-- R183, R184, R185: the timer instructions; setting the sound timer also sets the beeper. -/
def Obligations.TimerInstructionsMoveTheTimers : Prop :=
  ∀ (x : RegIdx) (s : State),
    (∃ t, exec (.ldVxDT x) s = .next t ∧ (∀ j, t.reg j = if j = x then s.dt else s.reg j) ∧ UnchangedBut [.regs] s t) ∧
    (∃ t, exec (.ldDTVx x) s = .next t ∧ t.dt = s.reg x ∧ UnchangedBut [.delay] s t) ∧
    (∃ t, exec (.ldSTVx x) s = .next t ∧ t.st = s.reg x ∧ (t.beep = true ↔ 0 < (s.reg x).toNat) ∧
      UnchangedBut [.sound] s t)

/-- R186 (that no display capability is needed is an inference the spec marks as its own, D18): EXT halts the core,
records the opcode and `IA`, and changes nothing else: a clean end. -/
def Obligations.ExtHaltsTheCore : Prop :=
  ∀ s : State,
    ∃ t, exec .ext s = .next t ∧ t = abortedWith s .exit .halt 0x00FD#16 ∧ t.result = .halt .exit ∧ t.cleanEnd

/-- R187: the ILLEGAL sentinel halts the core, records the opcode and `IA`, and changes nothing else: a fault end. -/
def Obligations.IllegalHaltsTheCore : Prop :=
  ∀ (op : Word) (s : State),
    ∃ t, exec (.illegal op) s = .next t ∧ t = abortedWith s .illegal .halt op ∧ t.result = .halt .illegal ∧ t.faultEnd

/-! ## The other agents' steps -/

/-- R208 (that it may come at any time is the spec's decision D19, assumption 21): a tick takes one from each timer,
clamped at 0, and recomputes the beeper. -/
def Obligations.TickCountsBothTimersDown : Prop :=
  ∀ s : State,
    ∃ t, takeTurn .decrementTimers s = .next t ∧ t.dt.toNat = s.dt.toNat - 1 ∧ t.st.toNat = s.st.toNat - 1 ∧
      (t.beep = true ↔ 0 < t.st.toNat) ∧ UnchangedBut [.delay, .sound] s t

/-- R261, R262, R263 (the spec's decisions D7, D17, D19): both resets restart the core; the full one also erases the
memory down to the font and clears the display; neither touches the quirks, the keys, the timers or the resolution. -/
def Obligations.ResetsRestartTheCore : Prop :=
  ∀ (s : State) (full : Bool),
    ∃ t, takeTurn (.reset full) s = .next t ∧
      (∀ j, t.reg j = 0) ∧ t.i = 0 ∧ t.pc = 0x200#16 ∧ (∀ k : Fin 16, t.stack[k] = 0) ∧ t.sp = 0 ∧ t.run = .running ∧
      t.err = { cause := .none, cls := .none, opcode := 0, addr := 0, maddr := 0 } ∧
      (full = false → UnchangedBut [.regs, .index, .pc, .stack, .status] s t) ∧
      (full = true →
        (∀ k : Fin 80, t.readByte? (s.font.base.val + k.val) = some (s.font.glyphs[k])) ∧
        (∀ a, a < 4096 → (a < s.font.base.val ∨ s.font.base.val + 80 ≤ a) → t.readByte? a = some 0) ∧
        (∀ x y, t.pixel x y = false) ∧ t.dirty = true ∧
        UnchangedBut [.regs, .index, .pc, .stack, .status, .memory, .pixels, .dirty] s t)

/-- R50 (the spec's decision D27, assumption 26): loading a program of at most 3584 bytes copies it to 0x200; a longer one
leaves the memory unchanged. -/
def Obligations.LoadRomCopiesTheProgram : Prop :=
  ∀ (s : State) (bytes : List Byte), Memory.wf s.font s.mem = true →
    ∃ t, takeTurn (.loadRom bytes) s = .next t ∧ UnchangedBut [.memory] s t ∧
      (bytes.length ≤ 3584 →
        (∀ k b, bytes[k]? = some b → t.readByte? (0x200 + k) = some b) ∧
        (∀ a, (a < 0x200 ∨ 0x200 + bytes.length ≤ a) → t.readByte? a = s.readByte? a)) ∧
      (3584 < bytes.length → ∀ a, t.readByte? a = s.readByte? a)

/-- R204 (the spec's decision D30), R206: the key refresh writes `KEYS` alone and may leave any key states; the consumer
clears `DIRTY` alone. -/
def Obligations.KeyRefreshAndConsumerTouchOnlyTheirOwn : Prop :=
  ∀ (s : State) (keys : Vector Bool 16),
    (∃ t, takeTurn (.updateKeys keys) s = .next t ∧ t.keys = keys ∧ UnchangedBut [.keys] s t) ∧
    (∃ t, takeTurn .present s = .next t ∧ t.dirty = false ∧ UnchangedBut [.dirty] s t)
end

