-- ==== Sys2Proof/Laws/State.lean ====
section
/-! SUPPORT. What each state update does to each field, true by definition: no later proof unfolds a record update. -/

namespace Sys2Proof.Machine

variable (s : State)

@[simp] theorem State.setReg_v (x : RegIdx) (b : Byte) : (s.setReg x b).v = s.v.set x b := rfl
@[simp] theorem State.setReg_i (x : RegIdx) (b : Byte) : (s.setReg x b).i = s.i := rfl
@[simp] theorem State.setReg_pc (x : RegIdx) (b : Byte) : (s.setReg x b).pc = s.pc := rfl
@[simp] theorem State.setReg_stack (x : RegIdx) (b : Byte) : (s.setReg x b).stack = s.stack := rfl
@[simp] theorem State.setReg_sp (x : RegIdx) (b : Byte) : (s.setReg x b).sp = s.sp := rfl
@[simp] theorem State.setReg_quirks (x : RegIdx) (b : Byte) : (s.setReg x b).quirks = s.quirks := rfl
@[simp] theorem State.setReg_run (x : RegIdx) (b : Byte) : (s.setReg x b).run = s.run := rfl
@[simp] theorem State.setReg_err (x : RegIdx) (b : Byte) : (s.setReg x b).err = s.err := rfl
@[simp] theorem State.setReg_mem (x : RegIdx) (b : Byte) : (s.setReg x b).mem = s.mem := rfl
@[simp] theorem State.setReg_pix (x : RegIdx) (b : Byte) : (s.setReg x b).pix = s.pix := rfl
@[simp] theorem State.setReg_dirty (x : RegIdx) (b : Byte) : (s.setReg x b).dirty = s.dirty := rfl
@[simp] theorem State.setReg_extMode (x : RegIdx) (b : Byte) : (s.setReg x b).extMode = s.extMode := rfl
@[simp] theorem State.setReg_keys (x : RegIdx) (b : Byte) : (s.setReg x b).keys = s.keys := rfl
@[simp] theorem State.setReg_dt (x : RegIdx) (b : Byte) : (s.setReg x b).dt = s.dt := rfl
@[simp] theorem State.setReg_st (x : RegIdx) (b : Byte) : (s.setReg x b).st = s.st := rfl
@[simp] theorem State.setReg_beep (x : RegIdx) (b : Byte) : (s.setReg x b).beep = s.beep := rfl
@[simp] theorem State.setReg_font (x : RegIdx) (b : Byte) : (s.setReg x b).font = s.font := rfl
@[simp] theorem State.setReg_displaySchip (x : RegIdx) (b : Byte) : (s.setReg x b).displaySchip = s.displaySchip := rfl
@[simp] theorem State.setReg_draws (x : RegIdx) (b : Byte) : (s.setReg x b).draws = s.draws := rfl
@[simp] theorem State.setReg_schedule (x : RegIdx) (b : Byte) : (s.setReg x b).schedule = s.schedule := rfl

@[simp] theorem State.setI_v (w : Word) : (s.setI w).v = s.v := rfl
@[simp] theorem State.setI_i (w : Word) : (s.setI w).i = w := rfl
@[simp] theorem State.setI_pc (w : Word) : (s.setI w).pc = s.pc := rfl
@[simp] theorem State.setI_stack (w : Word) : (s.setI w).stack = s.stack := rfl
@[simp] theorem State.setI_sp (w : Word) : (s.setI w).sp = s.sp := rfl
@[simp] theorem State.setI_quirks (w : Word) : (s.setI w).quirks = s.quirks := rfl
@[simp] theorem State.setI_run (w : Word) : (s.setI w).run = s.run := rfl
@[simp] theorem State.setI_err (w : Word) : (s.setI w).err = s.err := rfl
@[simp] theorem State.setI_mem (w : Word) : (s.setI w).mem = s.mem := rfl
@[simp] theorem State.setI_pix (w : Word) : (s.setI w).pix = s.pix := rfl
@[simp] theorem State.setI_dirty (w : Word) : (s.setI w).dirty = s.dirty := rfl
@[simp] theorem State.setI_extMode (w : Word) : (s.setI w).extMode = s.extMode := rfl
@[simp] theorem State.setI_keys (w : Word) : (s.setI w).keys = s.keys := rfl
@[simp] theorem State.setI_dt (w : Word) : (s.setI w).dt = s.dt := rfl
@[simp] theorem State.setI_st (w : Word) : (s.setI w).st = s.st := rfl
@[simp] theorem State.setI_beep (w : Word) : (s.setI w).beep = s.beep := rfl
@[simp] theorem State.setI_font (w : Word) : (s.setI w).font = s.font := rfl
@[simp] theorem State.setI_displaySchip (w : Word) : (s.setI w).displaySchip = s.displaySchip := rfl
@[simp] theorem State.setI_draws (w : Word) : (s.setI w).draws = s.draws := rfl
@[simp] theorem State.setI_schedule (w : Word) : (s.setI w).schedule = s.schedule := rfl

@[simp] theorem State.setPc_v (w : Word) : (s.setPc w).v = s.v := rfl
@[simp] theorem State.setPc_i (w : Word) : (s.setPc w).i = s.i := rfl
@[simp] theorem State.setPc_pc (w : Word) : (s.setPc w).pc = w := rfl
@[simp] theorem State.setPc_stack (w : Word) : (s.setPc w).stack = s.stack := rfl
@[simp] theorem State.setPc_sp (w : Word) : (s.setPc w).sp = s.sp := rfl
@[simp] theorem State.setPc_quirks (w : Word) : (s.setPc w).quirks = s.quirks := rfl
@[simp] theorem State.setPc_run (w : Word) : (s.setPc w).run = s.run := rfl
@[simp] theorem State.setPc_err (w : Word) : (s.setPc w).err = s.err := rfl
@[simp] theorem State.setPc_mem (w : Word) : (s.setPc w).mem = s.mem := rfl
@[simp] theorem State.setPc_pix (w : Word) : (s.setPc w).pix = s.pix := rfl
@[simp] theorem State.setPc_dirty (w : Word) : (s.setPc w).dirty = s.dirty := rfl
@[simp] theorem State.setPc_extMode (w : Word) : (s.setPc w).extMode = s.extMode := rfl
@[simp] theorem State.setPc_keys (w : Word) : (s.setPc w).keys = s.keys := rfl
@[simp] theorem State.setPc_dt (w : Word) : (s.setPc w).dt = s.dt := rfl
@[simp] theorem State.setPc_st (w : Word) : (s.setPc w).st = s.st := rfl
@[simp] theorem State.setPc_beep (w : Word) : (s.setPc w).beep = s.beep := rfl
@[simp] theorem State.setPc_font (w : Word) : (s.setPc w).font = s.font := rfl
@[simp] theorem State.setPc_displaySchip (w : Word) : (s.setPc w).displaySchip = s.displaySchip := rfl
@[simp] theorem State.setPc_draws (w : Word) : (s.setPc w).draws = s.draws := rfl
@[simp] theorem State.setPc_schedule (w : Word) : (s.setPc w).schedule = s.schedule := rfl

@[simp] theorem State.skip_v : (s.skip).v = s.v := rfl
@[simp] theorem State.skip_i : (s.skip).i = s.i := rfl
@[simp] theorem State.skip_pc : (s.skip).pc = s.pc + 2#16 := rfl
@[simp] theorem State.skip_stack : (s.skip).stack = s.stack := rfl
@[simp] theorem State.skip_sp : (s.skip).sp = s.sp := rfl
@[simp] theorem State.skip_quirks : (s.skip).quirks = s.quirks := rfl
@[simp] theorem State.skip_run : (s.skip).run = s.run := rfl
@[simp] theorem State.skip_err : (s.skip).err = s.err := rfl
@[simp] theorem State.skip_mem : (s.skip).mem = s.mem := rfl
@[simp] theorem State.skip_pix : (s.skip).pix = s.pix := rfl
@[simp] theorem State.skip_dirty : (s.skip).dirty = s.dirty := rfl
@[simp] theorem State.skip_extMode : (s.skip).extMode = s.extMode := rfl
@[simp] theorem State.skip_keys : (s.skip).keys = s.keys := rfl
@[simp] theorem State.skip_dt : (s.skip).dt = s.dt := rfl
@[simp] theorem State.skip_st : (s.skip).st = s.st := rfl
@[simp] theorem State.skip_beep : (s.skip).beep = s.beep := rfl
@[simp] theorem State.skip_font : (s.skip).font = s.font := rfl
@[simp] theorem State.skip_displaySchip : (s.skip).displaySchip = s.displaySchip := rfl
@[simp] theorem State.skip_draws : (s.skip).draws = s.draws := rfl
@[simp] theorem State.skip_schedule : (s.skip).schedule = s.schedule := rfl

@[simp] theorem State.setRegFlag_v (x : RegIdx) (r f : Byte) : (s.setRegFlag x r f).v = (s.v.set x r).set vf f := rfl
@[simp] theorem State.setRegFlag_i (x : RegIdx) (r f : Byte) : (s.setRegFlag x r f).i = s.i := rfl
@[simp] theorem State.setRegFlag_pc (x : RegIdx) (r f : Byte) : (s.setRegFlag x r f).pc = s.pc := rfl
@[simp] theorem State.setRegFlag_stack (x : RegIdx) (r f : Byte) : (s.setRegFlag x r f).stack = s.stack := rfl
@[simp] theorem State.setRegFlag_sp (x : RegIdx) (r f : Byte) : (s.setRegFlag x r f).sp = s.sp := rfl
@[simp] theorem State.setRegFlag_quirks (x : RegIdx) (r f : Byte) : (s.setRegFlag x r f).quirks = s.quirks := rfl
@[simp] theorem State.setRegFlag_run (x : RegIdx) (r f : Byte) : (s.setRegFlag x r f).run = s.run := rfl
@[simp] theorem State.setRegFlag_err (x : RegIdx) (r f : Byte) : (s.setRegFlag x r f).err = s.err := rfl
@[simp] theorem State.setRegFlag_mem (x : RegIdx) (r f : Byte) : (s.setRegFlag x r f).mem = s.mem := rfl
@[simp] theorem State.setRegFlag_pix (x : RegIdx) (r f : Byte) : (s.setRegFlag x r f).pix = s.pix := rfl
@[simp] theorem State.setRegFlag_dirty (x : RegIdx) (r f : Byte) : (s.setRegFlag x r f).dirty = s.dirty := rfl
@[simp] theorem State.setRegFlag_extMode (x : RegIdx) (r f : Byte) : (s.setRegFlag x r f).extMode = s.extMode := rfl
@[simp] theorem State.setRegFlag_keys (x : RegIdx) (r f : Byte) : (s.setRegFlag x r f).keys = s.keys := rfl
@[simp] theorem State.setRegFlag_dt (x : RegIdx) (r f : Byte) : (s.setRegFlag x r f).dt = s.dt := rfl
@[simp] theorem State.setRegFlag_st (x : RegIdx) (r f : Byte) : (s.setRegFlag x r f).st = s.st := rfl
@[simp] theorem State.setRegFlag_beep (x : RegIdx) (r f : Byte) : (s.setRegFlag x r f).beep = s.beep := rfl
@[simp] theorem State.setRegFlag_font (x : RegIdx) (r f : Byte) : (s.setRegFlag x r f).font = s.font := rfl
@[simp] theorem State.setRegFlag_displaySchip (x : RegIdx) (r f : Byte) : (s.setRegFlag x r f).displaySchip = s.displaySchip := rfl
@[simp] theorem State.setRegFlag_draws (x : RegIdx) (r f : Byte) : (s.setRegFlag x r f).draws = s.draws := rfl
@[simp] theorem State.setRegFlag_schedule (x : RegIdx) (r f : Byte) : (s.setRegFlag x r f).schedule = s.schedule := rfl

@[simp] theorem State.drawn_v : (s.drawn).v = s.v := rfl
@[simp] theorem State.drawn_i : (s.drawn).i = s.i := rfl
@[simp] theorem State.drawn_pc : (s.drawn).pc = s.pc := rfl
@[simp] theorem State.drawn_stack : (s.drawn).stack = s.stack := rfl
@[simp] theorem State.drawn_sp : (s.drawn).sp = s.sp := rfl
@[simp] theorem State.drawn_quirks : (s.drawn).quirks = s.quirks := rfl
@[simp] theorem State.drawn_run : (s.drawn).run = s.run := rfl
@[simp] theorem State.drawn_err : (s.drawn).err = s.err := rfl
@[simp] theorem State.drawn_mem : (s.drawn).mem = s.mem := rfl
@[simp] theorem State.drawn_pix : (s.drawn).pix = s.pix := rfl
@[simp] theorem State.drawn_dirty : (s.drawn).dirty = s.dirty := rfl
@[simp] theorem State.drawn_extMode : (s.drawn).extMode = s.extMode := rfl
@[simp] theorem State.drawn_keys : (s.drawn).keys = s.keys := rfl
@[simp] theorem State.drawn_dt : (s.drawn).dt = s.dt := rfl
@[simp] theorem State.drawn_st : (s.drawn).st = s.st := rfl
@[simp] theorem State.drawn_beep : (s.drawn).beep = s.beep := rfl
@[simp] theorem State.drawn_font : (s.drawn).font = s.font := rfl
@[simp] theorem State.drawn_displaySchip : (s.drawn).displaySchip = s.displaySchip := rfl
@[simp] theorem State.drawn_draws : (s.drawn).draws = s.draws + 1 := rfl
@[simp] theorem State.drawn_schedule : (s.drawn).schedule = s.schedule := rfl

@[simp] theorem State.abort_v (c : Cause) (op ia : Word) (n : Nat) : (s.abort c op ia n).v = s.v := rfl
@[simp] theorem State.abort_i (c : Cause) (op ia : Word) (n : Nat) : (s.abort c op ia n).i = s.i := rfl
@[simp] theorem State.abort_pc (c : Cause) (op ia : Word) (n : Nat) : (s.abort c op ia n).pc = s.pc := rfl
@[simp] theorem State.abort_stack (c : Cause) (op ia : Word) (n : Nat) : (s.abort c op ia n).stack = s.stack := rfl
@[simp] theorem State.abort_sp (c : Cause) (op ia : Word) (n : Nat) : (s.abort c op ia n).sp = s.sp := rfl
@[simp] theorem State.abort_quirks (c : Cause) (op ia : Word) (n : Nat) : (s.abort c op ia n).quirks = s.quirks := rfl
@[simp] theorem State.abort_run (c : Cause) (op ia : Word) (n : Nat) : (s.abort c op ia n).run = .halted := rfl
@[simp] theorem State.abort_err (c : Cause) (op ia : Word) (n : Nat) : (s.abort c op ia n).err = ⟨c, c.cls, op, ia, if c.hasAddress then BitVec.ofNat 17 n else 0⟩ := rfl
@[simp] theorem State.abort_mem (c : Cause) (op ia : Word) (n : Nat) : (s.abort c op ia n).mem = s.mem := rfl
@[simp] theorem State.abort_pix (c : Cause) (op ia : Word) (n : Nat) : (s.abort c op ia n).pix = s.pix := rfl
@[simp] theorem State.abort_dirty (c : Cause) (op ia : Word) (n : Nat) : (s.abort c op ia n).dirty = s.dirty := rfl
@[simp] theorem State.abort_extMode (c : Cause) (op ia : Word) (n : Nat) : (s.abort c op ia n).extMode = s.extMode := rfl
@[simp] theorem State.abort_keys (c : Cause) (op ia : Word) (n : Nat) : (s.abort c op ia n).keys = s.keys := rfl
@[simp] theorem State.abort_dt (c : Cause) (op ia : Word) (n : Nat) : (s.abort c op ia n).dt = s.dt := rfl
@[simp] theorem State.abort_st (c : Cause) (op ia : Word) (n : Nat) : (s.abort c op ia n).st = s.st := rfl
@[simp] theorem State.abort_beep (c : Cause) (op ia : Word) (n : Nat) : (s.abort c op ia n).beep = s.beep := rfl
@[simp] theorem State.abort_font (c : Cause) (op ia : Word) (n : Nat) : (s.abort c op ia n).font = s.font := rfl
@[simp] theorem State.abort_displaySchip (c : Cause) (op ia : Word) (n : Nat) : (s.abort c op ia n).displaySchip = s.displaySchip := rfl
@[simp] theorem State.abort_draws (c : Cause) (op ia : Word) (n : Nat) : (s.abort c op ia n).draws = s.draws := rfl
@[simp] theorem State.abort_schedule (c : Cause) (op ia : Word) (n : Nat) : (s.abort c op ia n).schedule = s.schedule := rfl

@[simp] theorem State.raise_v (c : Cause) (ins : Instr) (n : Nat) : (s.raise c ins n).v = s.v := rfl
@[simp] theorem State.raise_i (c : Cause) (ins : Instr) (n : Nat) : (s.raise c ins n).i = s.i := rfl
@[simp] theorem State.raise_pc (c : Cause) (ins : Instr) (n : Nat) : (s.raise c ins n).pc = s.pc := rfl
@[simp] theorem State.raise_stack (c : Cause) (ins : Instr) (n : Nat) : (s.raise c ins n).stack = s.stack := rfl
@[simp] theorem State.raise_sp (c : Cause) (ins : Instr) (n : Nat) : (s.raise c ins n).sp = s.sp := rfl
@[simp] theorem State.raise_quirks (c : Cause) (ins : Instr) (n : Nat) : (s.raise c ins n).quirks = s.quirks := rfl
@[simp] theorem State.raise_run (c : Cause) (ins : Instr) (n : Nat) : (s.raise c ins n).run = .halted := rfl
@[simp] theorem State.raise_err (c : Cause) (ins : Instr) (n : Nat) : (s.raise c ins n).err = ⟨c, c.cls, encode ins, s.ia, if c.hasAddress then BitVec.ofNat 17 n else 0⟩ := rfl
@[simp] theorem State.raise_mem (c : Cause) (ins : Instr) (n : Nat) : (s.raise c ins n).mem = s.mem := rfl
@[simp] theorem State.raise_pix (c : Cause) (ins : Instr) (n : Nat) : (s.raise c ins n).pix = s.pix := rfl
@[simp] theorem State.raise_dirty (c : Cause) (ins : Instr) (n : Nat) : (s.raise c ins n).dirty = s.dirty := rfl
@[simp] theorem State.raise_extMode (c : Cause) (ins : Instr) (n : Nat) : (s.raise c ins n).extMode = s.extMode := rfl
@[simp] theorem State.raise_keys (c : Cause) (ins : Instr) (n : Nat) : (s.raise c ins n).keys = s.keys := rfl
@[simp] theorem State.raise_dt (c : Cause) (ins : Instr) (n : Nat) : (s.raise c ins n).dt = s.dt := rfl
@[simp] theorem State.raise_st (c : Cause) (ins : Instr) (n : Nat) : (s.raise c ins n).st = s.st := rfl
@[simp] theorem State.raise_beep (c : Cause) (ins : Instr) (n : Nat) : (s.raise c ins n).beep = s.beep := rfl
@[simp] theorem State.raise_font (c : Cause) (ins : Instr) (n : Nat) : (s.raise c ins n).font = s.font := rfl
@[simp] theorem State.raise_displaySchip (c : Cause) (ins : Instr) (n : Nat) : (s.raise c ins n).displaySchip = s.displaySchip := rfl
@[simp] theorem State.raise_draws (c : Cause) (ins : Instr) (n : Nat) : (s.raise c ins n).draws = s.draws := rfl
@[simp] theorem State.raise_schedule (c : Cause) (ins : Instr) (n : Nat) : (s.raise c ins n).schedule = s.schedule := rfl

@[simp] theorem State.setDelayTimer_v (b : Byte) : (s.setDelayTimer b).v = s.v := rfl
@[simp] theorem State.setDelayTimer_i (b : Byte) : (s.setDelayTimer b).i = s.i := rfl
@[simp] theorem State.setDelayTimer_pc (b : Byte) : (s.setDelayTimer b).pc = s.pc := rfl
@[simp] theorem State.setDelayTimer_stack (b : Byte) : (s.setDelayTimer b).stack = s.stack := rfl
@[simp] theorem State.setDelayTimer_sp (b : Byte) : (s.setDelayTimer b).sp = s.sp := rfl
@[simp] theorem State.setDelayTimer_quirks (b : Byte) : (s.setDelayTimer b).quirks = s.quirks := rfl
@[simp] theorem State.setDelayTimer_run (b : Byte) : (s.setDelayTimer b).run = s.run := rfl
@[simp] theorem State.setDelayTimer_err (b : Byte) : (s.setDelayTimer b).err = s.err := rfl
@[simp] theorem State.setDelayTimer_mem (b : Byte) : (s.setDelayTimer b).mem = s.mem := rfl
@[simp] theorem State.setDelayTimer_pix (b : Byte) : (s.setDelayTimer b).pix = s.pix := rfl
@[simp] theorem State.setDelayTimer_dirty (b : Byte) : (s.setDelayTimer b).dirty = s.dirty := rfl
@[simp] theorem State.setDelayTimer_extMode (b : Byte) : (s.setDelayTimer b).extMode = s.extMode := rfl
@[simp] theorem State.setDelayTimer_keys (b : Byte) : (s.setDelayTimer b).keys = s.keys := rfl
@[simp] theorem State.setDelayTimer_dt (b : Byte) : (s.setDelayTimer b).dt = b := rfl
@[simp] theorem State.setDelayTimer_st (b : Byte) : (s.setDelayTimer b).st = s.st := rfl
@[simp] theorem State.setDelayTimer_beep (b : Byte) : (s.setDelayTimer b).beep = s.beep := rfl
@[simp] theorem State.setDelayTimer_font (b : Byte) : (s.setDelayTimer b).font = s.font := rfl
@[simp] theorem State.setDelayTimer_displaySchip (b : Byte) : (s.setDelayTimer b).displaySchip = s.displaySchip := rfl
@[simp] theorem State.setDelayTimer_draws (b : Byte) : (s.setDelayTimer b).draws = s.draws := rfl
@[simp] theorem State.setDelayTimer_schedule (b : Byte) : (s.setDelayTimer b).schedule = s.schedule := rfl

@[simp] theorem State.setSoundTimer_v (b : Byte) : (s.setSoundTimer b).v = s.v := rfl
@[simp] theorem State.setSoundTimer_i (b : Byte) : (s.setSoundTimer b).i = s.i := rfl
@[simp] theorem State.setSoundTimer_pc (b : Byte) : (s.setSoundTimer b).pc = s.pc := rfl
@[simp] theorem State.setSoundTimer_stack (b : Byte) : (s.setSoundTimer b).stack = s.stack := rfl
@[simp] theorem State.setSoundTimer_sp (b : Byte) : (s.setSoundTimer b).sp = s.sp := rfl
@[simp] theorem State.setSoundTimer_quirks (b : Byte) : (s.setSoundTimer b).quirks = s.quirks := rfl
@[simp] theorem State.setSoundTimer_run (b : Byte) : (s.setSoundTimer b).run = s.run := rfl
@[simp] theorem State.setSoundTimer_err (b : Byte) : (s.setSoundTimer b).err = s.err := rfl
@[simp] theorem State.setSoundTimer_mem (b : Byte) : (s.setSoundTimer b).mem = s.mem := rfl
@[simp] theorem State.setSoundTimer_pix (b : Byte) : (s.setSoundTimer b).pix = s.pix := rfl
@[simp] theorem State.setSoundTimer_dirty (b : Byte) : (s.setSoundTimer b).dirty = s.dirty := rfl
@[simp] theorem State.setSoundTimer_extMode (b : Byte) : (s.setSoundTimer b).extMode = s.extMode := rfl
@[simp] theorem State.setSoundTimer_keys (b : Byte) : (s.setSoundTimer b).keys = s.keys := rfl
@[simp] theorem State.setSoundTimer_dt (b : Byte) : (s.setSoundTimer b).dt = s.dt := rfl
@[simp] theorem State.setSoundTimer_st (b : Byte) : (s.setSoundTimer b).st = b := rfl
@[simp] theorem State.setSoundTimer_beep (b : Byte) : (s.setSoundTimer b).beep = decide (0 < b.toNat) := rfl
@[simp] theorem State.setSoundTimer_font (b : Byte) : (s.setSoundTimer b).font = s.font := rfl
@[simp] theorem State.setSoundTimer_displaySchip (b : Byte) : (s.setSoundTimer b).displaySchip = s.displaySchip := rfl
@[simp] theorem State.setSoundTimer_draws (b : Byte) : (s.setSoundTimer b).draws = s.draws := rfl
@[simp] theorem State.setSoundTimer_schedule (b : Byte) : (s.setSoundTimer b).schedule = s.schedule := rfl

@[simp] theorem State.decrementTimers_v : (s.decrementTimers).v = s.v := rfl
@[simp] theorem State.decrementTimers_i : (s.decrementTimers).i = s.i := rfl
@[simp] theorem State.decrementTimers_pc : (s.decrementTimers).pc = s.pc := rfl
@[simp] theorem State.decrementTimers_stack : (s.decrementTimers).stack = s.stack := rfl
@[simp] theorem State.decrementTimers_sp : (s.decrementTimers).sp = s.sp := rfl
@[simp] theorem State.decrementTimers_quirks : (s.decrementTimers).quirks = s.quirks := rfl
@[simp] theorem State.decrementTimers_run : (s.decrementTimers).run = s.run := rfl
@[simp] theorem State.decrementTimers_err : (s.decrementTimers).err = s.err := rfl
@[simp] theorem State.decrementTimers_mem : (s.decrementTimers).mem = s.mem := rfl
@[simp] theorem State.decrementTimers_pix : (s.decrementTimers).pix = s.pix := rfl
@[simp] theorem State.decrementTimers_dirty : (s.decrementTimers).dirty = s.dirty := rfl
@[simp] theorem State.decrementTimers_extMode : (s.decrementTimers).extMode = s.extMode := rfl
@[simp] theorem State.decrementTimers_keys : (s.decrementTimers).keys = s.keys := rfl
@[simp] theorem State.decrementTimers_dt : (s.decrementTimers).dt = countDown s.dt := rfl
@[simp] theorem State.decrementTimers_st : (s.decrementTimers).st = countDown s.st := rfl
@[simp] theorem State.decrementTimers_beep : (s.decrementTimers).beep = decide (0 < (countDown s.st).toNat) := rfl
@[simp] theorem State.decrementTimers_font : (s.decrementTimers).font = s.font := rfl
@[simp] theorem State.decrementTimers_displaySchip : (s.decrementTimers).displaySchip = s.displaySchip := rfl
@[simp] theorem State.decrementTimers_draws : (s.decrementTimers).draws = s.draws := rfl
@[simp] theorem State.decrementTimers_schedule : (s.decrementTimers).schedule = s.schedule := rfl

@[simp] theorem State.setDirty_v : (s.setDirty).v = s.v := rfl
@[simp] theorem State.setDirty_i : (s.setDirty).i = s.i := rfl
@[simp] theorem State.setDirty_pc : (s.setDirty).pc = s.pc := rfl
@[simp] theorem State.setDirty_stack : (s.setDirty).stack = s.stack := rfl
@[simp] theorem State.setDirty_sp : (s.setDirty).sp = s.sp := rfl
@[simp] theorem State.setDirty_quirks : (s.setDirty).quirks = s.quirks := rfl
@[simp] theorem State.setDirty_run : (s.setDirty).run = s.run := rfl
@[simp] theorem State.setDirty_err : (s.setDirty).err = s.err := rfl
@[simp] theorem State.setDirty_mem : (s.setDirty).mem = s.mem := rfl
@[simp] theorem State.setDirty_pix : (s.setDirty).pix = s.pix := rfl
@[simp] theorem State.setDirty_dirty : (s.setDirty).dirty = true := rfl
@[simp] theorem State.setDirty_extMode : (s.setDirty).extMode = s.extMode := rfl
@[simp] theorem State.setDirty_keys : (s.setDirty).keys = s.keys := rfl
@[simp] theorem State.setDirty_dt : (s.setDirty).dt = s.dt := rfl
@[simp] theorem State.setDirty_st : (s.setDirty).st = s.st := rfl
@[simp] theorem State.setDirty_beep : (s.setDirty).beep = s.beep := rfl
@[simp] theorem State.setDirty_font : (s.setDirty).font = s.font := rfl
@[simp] theorem State.setDirty_displaySchip : (s.setDirty).displaySchip = s.displaySchip := rfl
@[simp] theorem State.setDirty_draws : (s.setDirty).draws = s.draws := rfl
@[simp] theorem State.setDirty_schedule : (s.setDirty).schedule = s.schedule := rfl

@[simp] theorem State.setPixels_v (f : Nat → Nat → Bool) : (s.setPixels f).v = s.v := rfl
@[simp] theorem State.setPixels_i (f : Nat → Nat → Bool) : (s.setPixels f).i = s.i := rfl
@[simp] theorem State.setPixels_pc (f : Nat → Nat → Bool) : (s.setPixels f).pc = s.pc := rfl
@[simp] theorem State.setPixels_stack (f : Nat → Nat → Bool) : (s.setPixels f).stack = s.stack := rfl
@[simp] theorem State.setPixels_sp (f : Nat → Nat → Bool) : (s.setPixels f).sp = s.sp := rfl
@[simp] theorem State.setPixels_quirks (f : Nat → Nat → Bool) : (s.setPixels f).quirks = s.quirks := rfl
@[simp] theorem State.setPixels_run (f : Nat → Nat → Bool) : (s.setPixels f).run = s.run := rfl
@[simp] theorem State.setPixels_err (f : Nat → Nat → Bool) : (s.setPixels f).err = s.err := rfl
@[simp] theorem State.setPixels_mem (f : Nat → Nat → Bool) : (s.setPixels f).mem = s.mem := rfl
@[simp] theorem State.setPixels_pix (f : Nat → Nat → Bool) : (s.setPixels f).pix = Grid.tabulate s.width s.height f := rfl
@[simp] theorem State.setPixels_dirty (f : Nat → Nat → Bool) : (s.setPixels f).dirty = s.dirty := rfl
@[simp] theorem State.setPixels_extMode (f : Nat → Nat → Bool) : (s.setPixels f).extMode = s.extMode := rfl
@[simp] theorem State.setPixels_keys (f : Nat → Nat → Bool) : (s.setPixels f).keys = s.keys := rfl
@[simp] theorem State.setPixels_dt (f : Nat → Nat → Bool) : (s.setPixels f).dt = s.dt := rfl
@[simp] theorem State.setPixels_st (f : Nat → Nat → Bool) : (s.setPixels f).st = s.st := rfl
@[simp] theorem State.setPixels_beep (f : Nat → Nat → Bool) : (s.setPixels f).beep = s.beep := rfl
@[simp] theorem State.setPixels_font (f : Nat → Nat → Bool) : (s.setPixels f).font = s.font := rfl
@[simp] theorem State.setPixels_displaySchip (f : Nat → Nat → Bool) : (s.setPixels f).displaySchip = s.displaySchip := rfl
@[simp] theorem State.setPixels_draws (f : Nat → Nat → Bool) : (s.setPixels f).draws = s.draws := rfl
@[simp] theorem State.setPixels_schedule (f : Nat → Nat → Bool) : (s.setPixels f).schedule = s.schedule := rfl

@[simp] theorem State.clearDisplay_v : (s.clearDisplay).v = s.v := rfl
@[simp] theorem State.clearDisplay_i : (s.clearDisplay).i = s.i := rfl
@[simp] theorem State.clearDisplay_pc : (s.clearDisplay).pc = s.pc := rfl
@[simp] theorem State.clearDisplay_stack : (s.clearDisplay).stack = s.stack := rfl
@[simp] theorem State.clearDisplay_sp : (s.clearDisplay).sp = s.sp := rfl
@[simp] theorem State.clearDisplay_quirks : (s.clearDisplay).quirks = s.quirks := rfl
@[simp] theorem State.clearDisplay_run : (s.clearDisplay).run = s.run := rfl
@[simp] theorem State.clearDisplay_err : (s.clearDisplay).err = s.err := rfl
@[simp] theorem State.clearDisplay_mem : (s.clearDisplay).mem = s.mem := rfl
@[simp] theorem State.clearDisplay_pix : (s.clearDisplay).pix = Grid.blank := rfl
@[simp] theorem State.clearDisplay_dirty : (s.clearDisplay).dirty = s.dirty := rfl
@[simp] theorem State.clearDisplay_extMode : (s.clearDisplay).extMode = s.extMode := rfl
@[simp] theorem State.clearDisplay_keys : (s.clearDisplay).keys = s.keys := rfl
@[simp] theorem State.clearDisplay_dt : (s.clearDisplay).dt = s.dt := rfl
@[simp] theorem State.clearDisplay_st : (s.clearDisplay).st = s.st := rfl
@[simp] theorem State.clearDisplay_beep : (s.clearDisplay).beep = s.beep := rfl
@[simp] theorem State.clearDisplay_font : (s.clearDisplay).font = s.font := rfl
@[simp] theorem State.clearDisplay_displaySchip : (s.clearDisplay).displaySchip = s.displaySchip := rfl
@[simp] theorem State.clearDisplay_draws : (s.clearDisplay).draws = s.draws := rfl
@[simp] theorem State.clearDisplay_schedule : (s.clearDisplay).schedule = s.schedule := rfl

@[simp] theorem State.updateKeys_v (k : Vector Bool 16) : (s.updateKeys k).v = s.v := rfl
@[simp] theorem State.updateKeys_i (k : Vector Bool 16) : (s.updateKeys k).i = s.i := rfl
@[simp] theorem State.updateKeys_pc (k : Vector Bool 16) : (s.updateKeys k).pc = s.pc := rfl
@[simp] theorem State.updateKeys_stack (k : Vector Bool 16) : (s.updateKeys k).stack = s.stack := rfl
@[simp] theorem State.updateKeys_sp (k : Vector Bool 16) : (s.updateKeys k).sp = s.sp := rfl
@[simp] theorem State.updateKeys_quirks (k : Vector Bool 16) : (s.updateKeys k).quirks = s.quirks := rfl
@[simp] theorem State.updateKeys_run (k : Vector Bool 16) : (s.updateKeys k).run = s.run := rfl
@[simp] theorem State.updateKeys_err (k : Vector Bool 16) : (s.updateKeys k).err = s.err := rfl
@[simp] theorem State.updateKeys_mem (k : Vector Bool 16) : (s.updateKeys k).mem = s.mem := rfl
@[simp] theorem State.updateKeys_pix (k : Vector Bool 16) : (s.updateKeys k).pix = s.pix := rfl
@[simp] theorem State.updateKeys_dirty (k : Vector Bool 16) : (s.updateKeys k).dirty = s.dirty := rfl
@[simp] theorem State.updateKeys_extMode (k : Vector Bool 16) : (s.updateKeys k).extMode = s.extMode := rfl
@[simp] theorem State.updateKeys_keys (k : Vector Bool 16) : (s.updateKeys k).keys = k := rfl
@[simp] theorem State.updateKeys_dt (k : Vector Bool 16) : (s.updateKeys k).dt = s.dt := rfl
@[simp] theorem State.updateKeys_st (k : Vector Bool 16) : (s.updateKeys k).st = s.st := rfl
@[simp] theorem State.updateKeys_beep (k : Vector Bool 16) : (s.updateKeys k).beep = s.beep := rfl
@[simp] theorem State.updateKeys_font (k : Vector Bool 16) : (s.updateKeys k).font = s.font := rfl
@[simp] theorem State.updateKeys_displaySchip (k : Vector Bool 16) : (s.updateKeys k).displaySchip = s.displaySchip := rfl
@[simp] theorem State.updateKeys_draws (k : Vector Bool 16) : (s.updateKeys k).draws = s.draws := rfl
@[simp] theorem State.updateKeys_schedule (k : Vector Bool 16) : (s.updateKeys k).schedule = s.schedule := rfl

@[simp] theorem State.present_v : (s.present).v = s.v := rfl
@[simp] theorem State.present_i : (s.present).i = s.i := rfl
@[simp] theorem State.present_pc : (s.present).pc = s.pc := rfl
@[simp] theorem State.present_stack : (s.present).stack = s.stack := rfl
@[simp] theorem State.present_sp : (s.present).sp = s.sp := rfl
@[simp] theorem State.present_quirks : (s.present).quirks = s.quirks := rfl
@[simp] theorem State.present_run : (s.present).run = s.run := rfl
@[simp] theorem State.present_err : (s.present).err = s.err := rfl
@[simp] theorem State.present_mem : (s.present).mem = s.mem := rfl
@[simp] theorem State.present_pix : (s.present).pix = s.pix := rfl
@[simp] theorem State.present_dirty : (s.present).dirty = false := rfl
@[simp] theorem State.present_extMode : (s.present).extMode = s.extMode := rfl
@[simp] theorem State.present_keys : (s.present).keys = s.keys := rfl
@[simp] theorem State.present_dt : (s.present).dt = s.dt := rfl
@[simp] theorem State.present_st : (s.present).st = s.st := rfl
@[simp] theorem State.present_beep : (s.present).beep = s.beep := rfl
@[simp] theorem State.present_font : (s.present).font = s.font := rfl
@[simp] theorem State.present_displaySchip : (s.present).displaySchip = s.displaySchip := rfl
@[simp] theorem State.present_draws : (s.present).draws = s.draws := rfl
@[simp] theorem State.present_schedule : (s.present).schedule = s.schedule := rfl

@[simp] theorem State.resetCore_v : (s.resetCore).v = Vector.replicate 16 0 := rfl
@[simp] theorem State.resetCore_i : (s.resetCore).i = 0 := rfl
@[simp] theorem State.resetCore_pc : (s.resetCore).pc = Config.pcReset := rfl
@[simp] theorem State.resetCore_stack : (s.resetCore).stack = Vector.replicate 16 0 := rfl
@[simp] theorem State.resetCore_sp : (s.resetCore).sp = 0 := rfl
@[simp] theorem State.resetCore_quirks : (s.resetCore).quirks = s.quirks := rfl
@[simp] theorem State.resetCore_run : (s.resetCore).run = .running := rfl
@[simp] theorem State.resetCore_err : (s.resetCore).err = ErrorRecord.clear := rfl
@[simp] theorem State.resetCore_mem : (s.resetCore).mem = s.mem := rfl
@[simp] theorem State.resetCore_pix : (s.resetCore).pix = s.pix := rfl
@[simp] theorem State.resetCore_dirty : (s.resetCore).dirty = s.dirty := rfl
@[simp] theorem State.resetCore_extMode : (s.resetCore).extMode = s.extMode := rfl
@[simp] theorem State.resetCore_keys : (s.resetCore).keys = s.keys := rfl
@[simp] theorem State.resetCore_dt : (s.resetCore).dt = s.dt := rfl
@[simp] theorem State.resetCore_st : (s.resetCore).st = s.st := rfl
@[simp] theorem State.resetCore_beep : (s.resetCore).beep = s.beep := rfl
@[simp] theorem State.resetCore_font : (s.resetCore).font = s.font := rfl
@[simp] theorem State.resetCore_displaySchip : (s.resetCore).displaySchip = s.displaySchip := rfl
@[simp] theorem State.resetCore_draws : (s.resetCore).draws = s.draws := rfl
@[simp] theorem State.resetCore_schedule : (s.resetCore).schedule = s.schedule := rfl

@[simp] theorem State.resetFull_v : (s.resetFull).v = Vector.replicate 16 0 := rfl
@[simp] theorem State.resetFull_i : (s.resetFull).i = 0 := rfl
@[simp] theorem State.resetFull_pc : (s.resetFull).pc = Config.pcReset := rfl
@[simp] theorem State.resetFull_stack : (s.resetFull).stack = Vector.replicate 16 0 := rfl
@[simp] theorem State.resetFull_sp : (s.resetFull).sp = 0 := rfl
@[simp] theorem State.resetFull_quirks : (s.resetFull).quirks = s.quirks := rfl
@[simp] theorem State.resetFull_run : (s.resetFull).run = .running := rfl
@[simp] theorem State.resetFull_err : (s.resetFull).err = ErrorRecord.clear := rfl
@[simp] theorem State.resetFull_mem : (s.resetFull).mem = [] := rfl
@[simp] theorem State.resetFull_pix : (s.resetFull).pix = Grid.blank := rfl
@[simp] theorem State.resetFull_dirty : (s.resetFull).dirty = true := rfl
@[simp] theorem State.resetFull_extMode : (s.resetFull).extMode = s.extMode := rfl
@[simp] theorem State.resetFull_keys : (s.resetFull).keys = s.keys := rfl
@[simp] theorem State.resetFull_dt : (s.resetFull).dt = s.dt := rfl
@[simp] theorem State.resetFull_st : (s.resetFull).st = s.st := rfl
@[simp] theorem State.resetFull_beep : (s.resetFull).beep = s.beep := rfl
@[simp] theorem State.resetFull_font : (s.resetFull).font = s.font := rfl
@[simp] theorem State.resetFull_displaySchip : (s.resetFull).displaySchip = s.displaySchip := rfl
@[simp] theorem State.resetFull_draws : (s.resetFull).draws = s.draws := rfl
@[simp] theorem State.resetFull_schedule : (s.resetFull).schedule = s.schedule := rfl

end Sys2Proof.Machine
end

