-- ==== Sys2Proof/Laws/Display.lean ====
section
/-! SUPPORT. The pixel grid: what a pixel reads after each grid operation, and what each display operation leaves at every
pixel. -/

namespace Sys2Proof.Machine

theorem Grid.get_of_lt (g : Grid) {x y : Nat} (hx : x < 128) (hy : y < 64) : g.get x y = (g[y]'hy)[x]'hx := by
  simp [Grid.get, hx, hy]

/-- A pixel outside the grid reads false. -/
theorem Grid.get_outside (g : Grid) {x y : Nat} (h : ¬ (x < 128 ∧ y < 64)) : g.get x y = false := by
  simp only [Grid.get, dif_neg h]

@[simp] theorem Grid.get_blank (x y : Nat) : Grid.blank.get x y = false := by
  by_cases h : x < 128 ∧ y < 64
  · rw [Grid.get_of_lt _ h.1 h.2]; simp [Grid.blank]
  · exact Grid.get_outside _ h

theorem Grid.get_set (g : Grid) {x y : Nat} (hx : x < 128) (hy : y < 64) (b : Bool) (x' y' : Nat) :
    (g.set x y b).get x' y' = if x' = x ∧ y' = y then b else g.get x' y' := by
  by_cases h : x' < 128 ∧ y' < 64
  · rw [Grid.get_of_lt _ h.1 h.2, Grid.get_of_lt _ h.1 h.2]
    simp only [Grid.set, hx, hy, and_self, dite_true]
    by_cases h1 : y = y'
    · subst h1
      by_cases h2 : x = x'
      · subst h2; simp
      · rw [if_neg (by omega)]; simp [h2]
    · rw [if_neg (by omega)]; simp [h1]
  · rw [Grid.get_outside _ h, Grid.get_outside _ h, if_neg]
    rintro ⟨rfl, rfl⟩; exact h ⟨hx, hy⟩

theorem Grid.get_tabulate (w h : Nat) (f : Nat → Nat → Bool) (hw : w ≤ 128) (hh : h ≤ 64) (x y : Nat) :
    (Grid.tabulate w h f).get x y = (decide (x < w) && decide (y < h) && f x y) := by
  by_cases hxy : x < 128 ∧ y < 64
  · rw [Grid.get_of_lt _ hxy.1 hxy.2]; unfold Grid.tabulate; simp
  · rw [Grid.get_outside _ hxy]
    by_cases hx : x < w <;> by_cases hy : y < h <;> simp [hx, hy]
    omega

theorem State.width_le (s : State) : s.width ≤ 128 := by unfold State.width; split <;> omega

theorem State.height_le (s : State) : s.height ≤ 64 := by unfold State.height; split <;> omega

theorem State.width_pos (s : State) : 0 < s.width := by unfold State.width; split <;> omega

theorem State.height_pos (s : State) : 0 < s.height := by unfold State.height; split <;> omega

theorem State.pixel_setPixels (s : State) (f : Nat → Nat → Bool) (x y : Nat) :
    (s.setPixels f).pixel x y = (decide (x < s.width) && decide (y < s.height) && f x y) :=
  Grid.get_tabulate _ _ f s.width_le s.height_le x y

@[simp] theorem State.pixel_clearDisplay (s : State) (x y : Nat) : s.clearDisplay.pixel x y = false :=
  Grid.get_blank x y

@[simp] theorem State.pixel_resetFull (s : State) (x y : Nat) : s.resetFull.pixel x y = false :=
  Grid.get_blank x y

/-- What plotting one pixel does to every pixel, given where the pixel falls. -/
theorem Blit.get_plot (b : Blit) (px py : Nat) (acc : Grid × Bool) (hw : b.w ≤ 128) (hh : b.h ≤ 64)
    (hw0 : 0 < b.w) (hh0 : 0 < b.h) (x y : Nat) :
    (b.plot px py acc).1.get x y =
      if b.target px py = some (x, y) then !acc.1.get x y else acc.1.get x y := by
  unfold Blit.plot
  rcases h : b.target px py with _ | ⟨tx, ty⟩
  · simp
  · have hb : tx < b.w ∧ ty < b.h := by
      unfold Blit.target at h
      split_ifs at h <;> simp only [Option.some.injEq, Prod.mk.injEq] at h
      · exact ⟨h.1 ▸ Nat.mod_lt _ hw0, h.2 ▸ Nat.mod_lt _ hh0⟩
      · omega
    simp only
    rw [Grid.get_set _ (by omega) (by omega)]
    by_cases hxy : x = tx ∧ y = ty
    · obtain ⟨rfl, rfl⟩ := hxy; simp
    · rw [if_neg hxy, if_neg]; simp only [Option.some.injEq, Prod.mk.injEq]; omega

/-- Two columns of a sprite never fall on the same pixel, for a display at least as wide as a sprite, nor do two rows. -/
theorem Blit.target_inj (b : Blit) {c c' y0 r r' x y : Nat} (hw : 8 ≤ b.w) (hh : 15 ≤ b.h) (hc : c < 8) (hc' : c' < 8)
    (hr : r < 15) (hr' : r' < 15) (h : b.target (b.x0 + c) (y0 + r) = some (x, y))
    (h' : b.target (b.x0 + c') (y0 + r') = some (x, y)) : c = c' ∧ r = r' := by
  have cancel : ∀ {m a u v : Nat}, u < m → v < m → (a + u) % m = (a + v) % m → u = v := fun hu hv e =>
    Nat.ModEq.eq_of_lt_of_lt (Nat.ModEq.add_left_cancel' _ e) hu hv
  unfold Blit.target at h h'
  by_cases hb : b.wrap = true
  · simp only [hb, if_true, Option.some.injEq, Prod.mk.injEq] at h h'
    exact ⟨cancel (by omega) (by omega) (h.1.trans h'.1.symm), cancel (by omega) (by omega) (h.2.trans h'.2.symm)⟩
  · simp only [hb, Bool.false_eq_true, if_false] at h h'
    split_ifs at h h'
    simp only [Option.some.injEq, Prod.mk.injEq] at h h'
    omega

/-- The collision after plotting one pixel. -/
theorem Blit.hit_plot (b : Blit) (px py : Nat) (acc : Grid × Bool) :
    (b.plot px py acc).2 = true ↔ acc.2 = true ∨ ∃ x y, b.target px py = some (x, y) ∧ acc.1.get x y = true := by
  unfold Blit.plot
  rcases h : b.target px py with _ | ⟨tx, ty⟩
  · simp
  · simp only [Bool.or_eq_true, Option.some.injEq, Prod.mk.injEq]
    constructor
    · rintro (h | h)
      · exact .inl h
      · exact .inr ⟨tx, ty, ⟨rfl, rfl⟩, h⟩
    · rintro (h | ⟨x, y, ⟨rfl, rfl⟩, h⟩)
      · exact .inl h
      · exact .inr h

/-- The sprite pixels `c`, …, `c + n - 1` of a row fall on the pixel `(x, y)`. -/
def Blit.rowCovers (b : Blit) (py : Nat) (row : Byte) (c n x y : Nat) : Prop :=
  ∃ k, c ≤ k ∧ k < c + n ∧ row.getLsbD (7 - k) = true ∧ b.target (b.x0 + k) py = some (x, y)

/-- Drawing pixels of a row toggles those it covers, and collides where one of them was on. -/
theorem Blit.pixels_spec (b : Blit) (y0 r : Nat) (row : Byte) (c n : Nat) (acc : Grid × Bool) (hw : b.w ≤ 128) (hh : b.h ≤ 64)
    (hw8 : 8 ≤ b.w) (hh15 : 15 ≤ b.h) (hr : r < 15) (hn : c + n ≤ 8) :
    (∀ x y, (b.pixels (y0 + r) row c n acc).1.get x y = true ↔
      ¬ (acc.1.get x y = true ↔ b.rowCovers (y0 + r) row c n x y)) ∧
    ((b.pixels (y0 + r) row c n acc).2 = true ↔
      acc.2 = true ∨ ∃ x y, b.rowCovers (y0 + r) row c n x y ∧ acc.1.get x y = true) := by
  induction n generalizing c acc with
  | zero =>
    have hno : ∀ x y, ¬ b.rowCovers (y0 + r) row c 0 x y := by rintro x y ⟨k, h1, h2, -⟩; omega
    exact ⟨fun x y => by simp [Blit.pixels, hno], by simp [Blit.pixels, hno]⟩
  | succ n ih =>
    have hcov : ∀ x y, b.rowCovers (y0 + r) row c (n + 1) x y ↔
        (row.getLsbD (7 - c) = true ∧ b.target (b.x0 + c) (y0 + r) = some (x, y)) ∨
          b.rowCovers (y0 + r) row (c + 1) n x y := by
      intro x y
      constructor
      · rintro ⟨k, h1, h2, h3⟩
        rcases Nat.eq_or_lt_of_le h1 with rfl | h1
        · exact .inl h3
        · exact .inr ⟨k, h1, by omega, h3⟩
      · rintro (h | ⟨k, h1, h2, h3⟩)
        · exact ⟨c, le_refl _, by omega, h⟩
        · exact ⟨k, by omega, by omega, h3⟩
    have hdisj : ∀ x y, b.target (b.x0 + c) (y0 + r) = some (x, y) → ¬ b.rowCovers (y0 + r) row (c + 1) n x y := by
      rintro x y h ⟨k, h1, h2, -, h4⟩
      have := (b.target_inj hw8 hh15 (by omega) (by omega) hr hr h h4).1
      omega
    simp only [Blit.pixels]
    by_cases hb : row.getLsbD (7 - c) = true
    · obtain ⟨h1, h2⟩ := ih (c + 1) (b.plot (b.x0 + c) (y0 + r) acc) (by omega)
      simp only [hb, if_true]
      have hg : ∀ x y, (b.plot (b.x0 + c) (y0 + r) acc).1.get x y = true ↔
          ¬ (acc.1.get x y = true ↔ b.target (b.x0 + c) (y0 + r) = some (x, y)) := by
        intro x y
        rw [b.get_plot _ _ acc hw hh (by omega) (by omega)]
        split_ifs with h <;> simp [h]
      refine ⟨fun x y => ?_, ?_⟩
      · rw [h1, hg, hcov]
        have := hdisj x y
        tauto
      · rw [h2, b.hit_plot]
        constructor
        · rintro ((h | ⟨x, y, h, h'⟩) | ⟨x, y, h, h'⟩)
          · exact .inl h
          · exact .inr ⟨x, y, (hcov x y).mpr (.inl ⟨hb, h⟩), h'⟩
          · refine .inr ⟨x, y, (hcov x y).mpr (.inr h), ?_⟩
            rw [hg] at h'
            have := hdisj x y
            tauto
        · rintro (h | ⟨x, y, h, h'⟩)
          · exact .inl (.inl h)
          · rcases (hcov x y).mp h with ⟨-, h⟩ | h
            · exact .inl (.inr ⟨x, y, h, h'⟩)
            · refine .inr ⟨x, y, h, ?_⟩
              rw [hg]
              have := hdisj x y
              tauto
    · obtain ⟨h1, h2⟩ := ih (c + 1) acc (by omega)
      simp only [hb, Bool.false_eq_true, if_false]
      have e : ∀ x y, b.rowCovers (y0 + r) row c (n + 1) x y ↔ b.rowCovers (y0 + r) row (c + 1) n x y := by
        intro x y; rw [hcov]; simp [hb]
      simp only [e]
      exact ⟨h1, h2⟩

/-- The rows `r`, …, `r + n - 1` of the sprite, those that can be read, fall on the pixel `(x, y)`. -/
def State.rowsCover (s : State) (b : Blit) (y0 r n x y : Nat) : Prop :=
  ∃ j row, r ≤ j ∧ j < r + n ∧ s.readByte? (s.ea j) = some row ∧ b.rowCovers (y0 + j) row 0 8 x y

/-- Drawing rows toggles the pixels they cover, and collides where one of them was on. -/
theorem State.drawRows_spec (s : State) (b : Blit) (y0 r n : Nat) (acc : Grid × Bool) (hw : b.w ≤ 128) (hh : b.h ≤ 64)
    (hw8 : 8 ≤ b.w) (hh15 : 15 ≤ b.h) (hn : r + n ≤ 15) :
    (∀ x y, (s.drawRows b y0 r n acc).1.1.get x y = true ↔ ¬ (acc.1.get x y = true ↔ s.rowsCover b y0 r n x y)) ∧
    ((s.drawRows b y0 r n acc).1.2 = true ↔
      acc.2 = true ∨ ∃ x y, s.rowsCover b y0 r n x y ∧ acc.1.get x y = true) := by
  induction n generalizing r acc with
  | zero =>
    have hno : ∀ x y, ¬ s.rowsCover b y0 r 0 x y := by rintro x y ⟨j, row, h1, h2, -⟩; omega
    exact ⟨fun x y => by simp [State.drawRows, hno], by simp [State.drawRows, hno]⟩
  | succ n ih =>
    simp only [State.drawRows]
    rcases hr : s.readByte? (s.ea r) with _ | row
    · have hno : ∀ x y, ¬ s.rowsCover b y0 r (n + 1) x y := by
        rintro x y ⟨j, row, h1, h2, h3, -⟩
        have e1 : ¬ s.ea r < Config.memSize := fun h => by simp [State.readByte?, h] at hr
        have e2 : s.ea j < Config.memSize := by by_contra h; simp [State.readByte?, h] at h3
        simp only [State.ea] at e1 e2
        omega
      exact ⟨fun x y => by simp [hno], by simp [hno]⟩
    · obtain ⟨p1, p2⟩ := b.pixels_spec y0 r row 0 8 acc hw hh hw8 hh15 (by omega) (by omega)
      obtain ⟨h1, h2⟩ := ih (r + 1) (b.row (y0 + r) row acc) (by omega)
      have hcov : ∀ x y, s.rowsCover b y0 r (n + 1) x y ↔
          b.rowCovers (y0 + r) row 0 8 x y ∨ s.rowsCover b y0 (r + 1) n x y := by
        intro x y
        constructor
        · rintro ⟨j, row', a1, a2, a3, a4⟩
          rcases Nat.eq_or_lt_of_le a1 with rfl | a1
          · rw [hr, Option.some.injEq] at a3; exact .inl (a3 ▸ a4)
          · exact .inr ⟨j, row', a1, by omega, a3, a4⟩
        · rintro (h | ⟨j, row', a1, a2, a3⟩)
          · exact ⟨r, row, le_refl _, by omega, hr, h⟩
          · exact ⟨j, row', by omega, by omega, a3⟩
      have hdisj : ∀ x y, b.rowCovers (y0 + r) row 0 8 x y → ¬ s.rowsCover b y0 (r + 1) n x y := by
        rintro x y ⟨k, -, k2, -, k4⟩ ⟨j, row', a1, a2, -, ⟨k', -, k2', -, k4'⟩⟩
        have := (b.target_inj hw8 hh15 (by omega) (by omega) (by omega) (by omega) k4 k4').2
        omega
      simp only [Blit.row] at h1 h2
      refine ⟨fun x y => ?_, ?_⟩
      · simp only [Blit.row]
        rw [h1, p1, hcov]
        have := hdisj x y
        tauto
      · simp only [Blit.row]
        rw [h2, p2]
        constructor
        · rintro ((h | ⟨x, y, h, h'⟩) | ⟨x, y, h, h'⟩)
          · exact .inl h
          · exact .inr ⟨x, y, (hcov x y).mpr (.inl h), h'⟩
          · refine .inr ⟨x, y, (hcov x y).mpr (.inr h), ?_⟩
            rw [p1] at h'
            have := hdisj x y
            tauto
        · rintro (h | ⟨x, y, h, h'⟩)
          · exact .inl (.inl h)
          · rcases (hcov x y).mp h with h | h
            · exact .inl (.inr ⟨x, y, h, h'⟩)
            · refine .inr ⟨x, y, h, ?_⟩
              rw [p1]
              have := hdisj x y
              tauto

/-- Drawing rows fails exactly when it reaches the end of the memory, and names the first address there. -/
theorem State.drawRows_fails (s : State) (b : Blit) (y0 r n : Nat) (acc : Grid × Bool) :
    (s.drawRows b y0 r n acc).2 =
      if n = 0 ∨ s.ea r + n ≤ Config.memSize then none else some (max (s.ea r) Config.memSize) := by
  induction n generalizing r acc with
  | zero => rfl
  | succ n ih =>
    simp only [State.drawRows, State.readByte?]
    by_cases h : s.ea r < Config.memSize
    · simp only [if_pos h, ih]
      have he : s.ea (r + 1) = s.ea r + 1 := by simp [State.ea]; omega
      rw [he]
      rcases n with _ | n
      · simp; omega
      · simp only [Nat.add_eq_zero_iff, and_false, false_or, one_ne_zero]
        congr 1
        · simp; omega
        · congr 1; omega
    · rw [if_neg h, if_neg (by simp only [Nat.add_eq_zero_iff, one_ne_zero, and_false, false_or]; omega),
        Nat.max_eq_left (by omega)]

end Sys2Proof.Machine
end

