-- ==== Sys2Proof/Laws/Encoding.lean ====
section
/-! SUPPORT. The formats of 30_encoding R62 as numbers, the fields of an encoded instruction, and which formats lie in the
legal values of R67. -/

namespace Sys2Proof

theorem toNat_append_add {m n : Nat} (a : BitVec m) (b : BitVec n) : (a ++ b).toNat = a.toNat * 2 ^ n + b.toNat := by
  rw [BitVec.toNat_append, ← Nat.shiftLeft_add_eq_or_of_lt b.isLt, Nat.shiftLeft_eq]

theorem nibble_toNat (x : Fin 16) : (nibble x).toNat = x.val := rfl

theorem encXKK_toNat (f : BitVec 4) (x : RegIdx) (kk : Byte) :
    (encXKK f x kk).toNat = f.toNat * 4096 + x.val * 256 + kk.toNat := by
  simp only [encXKK, toNat_append_add, nibble_toNat]; omega

theorem encXY_toNat (f : BitVec 4) (x y : RegIdx) (g : BitVec 4) :
    (encXY f x y g).toNat = f.toNat * 4096 + x.val * 256 + y.val * 16 + g.toNat := by
  simp only [encXY, toNat_append_add, nibble_toNat]; omega

theorem encX_toNat (f : BitVec 4) (x : RegIdx) (g : Byte) :
    (encX f x g).toNat = f.toNat * 4096 + x.val * 256 + g.toNat := by
  simp only [encX, toNat_append_add, nibble_toNat]; omega

theorem encNNN_toNat (f : BitVec 4) (nnn : BitVec 12) : (encNNN f nnn).toNat = f.toNat * 4096 + nnn.toNat := by
  simp only [encNNN, toNat_append_add]; omega

theorem fieldX_val (op : Word) : (fieldX op).val = op.toNat / 256 % 16 := by
  simp [fieldX, Nat.shiftRight_eq_div_pow]

theorem fieldY_val (op : Word) : (fieldY op).val = op.toNat / 16 % 16 := by
  simp [fieldY, Nat.shiftRight_eq_div_pow]

theorem fieldN_val (op : Word) : (fieldN op).val = op.toNat % 16 := by
  simp [fieldN]

theorem fieldKK_toNat (op : Word) : (fieldKK op).toNat = op.toNat % 256 := by
  simp [fieldKK, BitVec.extractLsb'_toNat]

theorem fieldNNN_toNat (op : Word) : (fieldNNN op).toNat = op.toNat % 4096 := by
  simp [fieldNNN, BitVec.extractLsb'_toNat]

/-- A family nibble whose 4096 values are all legal (30_encoding R67). -/
def wholeFamily (f : BitVec 4) : Bool := f ∈ [0x1#4, 0x2#4, 0x3#4, 0x4#4, 0x6#4, 0x7#4, 0xA#4, 0xB#4, 0xC#4, 0xD#4]

theorem isLegalWord_of_wholeFamily (op : Word) (f : BitVec 4) (hf : wholeFamily f = true) (h : op.toNat / 4096 = f.toNat) :
    isLegalWord op = true := by
  simp only [wholeFamily, List.mem_cons, List.not_mem_nil, or_false, decide_eq_true_eq] at hf
  rcases hf with rfl | rfl | rfl | rfl | rfl | rfl | rfl | rfl | rfl | rfl <;> simp [isLegalWord, h]

theorem isLegalWord_xkk (f : BitVec 4) (hf : wholeFamily f = true) (x : RegIdx) (kk : Byte) :
    isLegalWord (encXKK f x kk) = true :=
  isLegalWord_of_wholeFamily _ f hf (by rw [encXKK_toNat]; omega)

theorem isLegalWord_nnn (f : BitVec 4) (hf : wholeFamily f = true) (nnn : BitVec 12) : isLegalWord (encNNN f nnn) = true :=
  isLegalWord_of_wholeFamily _ f hf (by rw [encNNN_toNat]; omega)

/-- The sub-opcodes of the formats XY in families 5, 8 and 9 that are legal (30_encoding R67). -/
def xySubOpcode (f g : BitVec 4) : Bool :=
  (f == 0x5#4 && g == 0x0#4) || (f == 0x8#4 && (g.toNat ≤ 7 || g == 0xE#4)) || (f == 0x9#4 && g == 0x0#4)

theorem isLegalWord_xy (f g : BitVec 4) (hf : xySubOpcode f g = true) (x y : RegIdx) : isLegalWord (encXY f x y g) = true := by
  have h1 : (encXY f x y g).toNat / 4096 = f.toNat := by rw [encXY_toNat]; omega
  have h2 : (encXY f x y g).toNat % 16 = g.toNat := by rw [encXY_toNat]; omega
  simp only [xySubOpcode, Bool.or_eq_true, Bool.and_eq_true, beq_iff_eq, decide_eq_true_eq] at hf
  rcases hf with (⟨rfl, rfl⟩ | ⟨rfl, hg⟩) | ⟨rfl, rfl⟩
  · simp [isLegalWord, h1, h2]
  · rcases hg with hg | rfl <;> simp [isLegalWord, h1, h2]
    exact .inl hg
  · simp [isLegalWord, h1, h2]

theorem isLegalWord_xyn (f : BitVec 4) (hf : wholeFamily f = true) (x y : RegIdx) (g : BitVec 4) :
    isLegalWord (encXY f x y g) = true :=
  isLegalWord_of_wholeFamily _ f hf (by rw [encXY_toNat]; omega)

end Sys2Proof
end

