-- ==== Sys2Proof/Laws/Memory.lean ====
section
/-! SUPPORT. The memory array: reading after writing, and the canonical form that every operation keeps. -/

namespace Sys2Proof.Machine

theorem Memory.wfFrom_cons (f : Font) (lo b : Nat) (w : Byte) (rest : Memory) :
    Memory.wfFrom f lo ((b, w) :: rest) = true ↔
      lo ≤ b ∧ b < Config.memSize ∧ w ≠ f.byteAt b ∧ Memory.wfFrom f (b + 1) rest = true := by
  simp [Memory.wfFrom, and_assoc]

/-- A canonical memory from `lo` up lists nothing below `lo`. -/
theorem Memory.get_below (f : Font) (m : Memory) (lo : Nat) (hm : Memory.wfFrom f lo m = true) (c : Nat) (hc : c < lo) :
    Memory.get f m c = f.byteAt c := by
  induction m generalizing lo with
  | nil => rfl
  | cons cell rest ih =>
    obtain ⟨h1, -, -, h4⟩ := (Memory.wfFrom_cons f lo cell.1 cell.2 rest).mp hm
    rw [Memory.get, if_neg (by omega)]
    exact ih _ h4 (by omega)

theorem Memory.wfFrom_mono (f : Font) (m : Memory) (lo lo' : Nat) (h : lo' ≤ lo) (hm : Memory.wfFrom f lo m = true) :
    Memory.wfFrom f lo' m = true := by
  cases m with
  | nil => rfl
  | cons cell rest =>
    obtain ⟨h1, h2⟩ := (Memory.wfFrom_cons f lo cell.1 cell.2 rest).mp hm
    exact (Memory.wfFrom_cons f lo' cell.1 cell.2 rest).mpr ⟨by omega, h2⟩

theorem Memory.get_put_from (f : Font) (m : Memory) (lo : Nat) (hm : Memory.wfFrom f lo m = true) (a c : Nat) (x : Byte) :
    Memory.get f (Memory.put f m a x) c = if c = a then x else Memory.get f m c := by
  induction m generalizing lo with
  | nil => by_cases h : x = f.byteAt a <;> by_cases hc : c = a <;> simp_all [Memory.put, Memory.get]
  | cons cell rest ih =>
    obtain ⟨b, w⟩ := cell
    obtain ⟨-, -, -, h4⟩ := (Memory.wfFrom_cons f lo b w rest).mp hm
    have below := Memory.get_below f rest _ h4
    have hab : a < b → Memory.get f ((b, w) :: rest) a = f.byteAt a := fun h => by
      rw [Memory.get, if_neg (by omega), below a (by omega)]
    rw [Memory.put]
    split_ifs with h1 hx h2 hx hx <;> by_cases hc : c = a <;> simp_all [Memory.get]
    · exact ih _ h4
    · rw [ih _ h4]

/-- Read after write. -/
theorem Memory.get_put (f : Font) (m : Memory) (hm : Memory.wf f m = true) (a c : Nat) (x : Byte) :
    Memory.get f (Memory.put f m a x) c = if c = a then x else Memory.get f m c :=
  Memory.get_put_from f m 0 hm a c x

theorem Memory.put_wfFrom (f : Font) (m : Memory) (lo : Nat) (hm : Memory.wfFrom f lo m = true) (a : Nat) (x : Byte)
    (ha : a < Config.memSize) (hlo : lo ≤ a) : Memory.wfFrom f lo (Memory.put f m a x) = true := by
  induction m generalizing lo with
  | nil => by_cases h : x = f.byteAt a <;> simp_all [Memory.put, Memory.wfFrom]
  | cons cell rest ih =>
    obtain ⟨b, w⟩ := cell
    obtain ⟨h1, h2, h3, h4⟩ := (Memory.wfFrom_cons f lo b w rest).mp hm
    rw [Memory.put]
    split_ifs with hab hx hb hx
    · exact hm
    · exact (Memory.wfFrom_cons ..).mpr ⟨hlo, ha, hx, (Memory.wfFrom_cons ..).mpr ⟨by omega, h2, h3, h4⟩⟩
    · exact Memory.wfFrom_mono f rest _ lo (by omega) h4
    · subst hb; exact (Memory.wfFrom_cons ..).mpr ⟨hlo, ha, hx, h4⟩
    · exact (Memory.wfFrom_cons ..).mpr ⟨h1, h2, h3, ih _ h4 (by omega)⟩

/-- Writing a byte keeps the canonical form. -/
theorem Memory.put_wf (f : Font) (m : Memory) (a : Nat) (x : Byte) (hm : Memory.wf f m = true) (ha : a < Config.memSize) :
    Memory.wf f (Memory.put f m a x) = true :=
  Memory.put_wfFrom f m 0 hm a x ha (by omega)

/-- Memory after either reset that reaches it has the canonical form. -/
theorem Memory.nil_wf (f : Font) : Memory.wf f [] = true := rfl

/-- What a byte write can do: it answers a state only for an address of the memory, and then only the memory changes. -/
theorem State.writeByte?_eq_some {s t : State} {a : Nat} {b : Byte} :
    s.writeByte? a b = some t ↔ a < Config.memSize ∧ t = { s with mem := Memory.put s.font s.mem a b } := by
  simp only [State.writeByte?]; split <;> simp_all [eq_comm]

theorem State.readByte?_eq (s : State) (a : Nat) :
    s.readByte? a = if a < Config.memSize then some (Memory.get s.font s.mem a) else none := rfl

/-- A byte write that answers keeps the canonical form. -/
theorem State.writeByte?_wf {s t : State} {a : Nat} {b : Byte} (h : s.writeByte? a b = some t)
    (hm : Memory.wf s.font s.mem = true) : Memory.wf t.font t.mem = true := by
  obtain ⟨ha, rfl⟩ := State.writeByte?_eq_some.mp h
  exact Memory.put_wf _ _ _ _ hm ha

/-- Read after write. -/
theorem State.readByte?_writeByte? {s t : State} {a : Nat} {b : Byte} (h : s.writeByte? a b = some t)
    (hm : Memory.wf s.font s.mem = true) (c : Nat) : t.readByte? c = if c = a then some b else s.readByte? c := by
  obtain ⟨ha, rfl⟩ := State.writeByte?_eq_some.mp h
  simp only [State.readByte?, Memory.get_put _ _ hm]
  by_cases hc : c = a <;> simp_all

/-- A sequence of byte writes changes only the memory. -/
theorem State.writeBytes_frame (s : State) (a : Nat) (bs : List Byte) :
    (s.writeBytes a bs).1 = { s with mem := (s.writeBytes a bs).1.mem } := by
  induction bs generalizing s a with
  | nil => rfl
  | cons b bs ih =>
    simp only [State.writeBytes]
    split
    · rename_i t h
      obtain ⟨-, rfl⟩ := State.writeByte?_eq_some.mp h
      rw [ih]
    · rfl

/-- A sequence of byte writes keeps the canonical form. -/
theorem State.writeBytes_wf (s : State) (a : Nat) (bs : List Byte) (hm : Memory.wf s.font s.mem = true) :
    Memory.wf s.font (s.writeBytes a bs).1.mem = true := by
  induction bs generalizing s a with
  | nil => exact hm
  | cons b bs ih =>
    simp only [State.writeBytes]
    split
    · rename_i t h
      have ht := State.writeByte?_wf h hm
      obtain ⟨-, rfl⟩ := State.writeByte?_eq_some.mp h
      exact ih _ _ ht
    · exact hm

/-- A sequence of byte writes fails exactly when it reaches the end of the memory, and names the first address there. -/
theorem State.writeBytes_fails (s : State) (a : Nat) (bs : List Byte) :
    (s.writeBytes a bs).2 =
      if bs = [] ∨ a + bs.length ≤ Config.memSize then none else some (max a Config.memSize) := by
  induction bs generalizing s a with
  | nil => rfl
  | cons b bs ih =>
    simp only [State.writeBytes, State.writeByte?]
    by_cases h : a < Config.memSize
    · simp only [if_pos h, ih, List.length_cons, reduceCtorEq, false_or]
      rcases bs with _ | ⟨b', bs⟩
      · simp; omega
      · simp only [List.length_cons, reduceCtorEq, false_or]; congr 1
        · simp; omega
        · congr 1; omega
    · rw [if_neg h, if_neg (by simp only [reduceCtorEq, List.length_cons, false_or]; omega), Nat.max_eq_left (by omega)]

/-- What memory reads after a sequence of byte writes: the bytes written at the addresses that exist. -/
theorem State.readByte?_writeBytes (s : State) (a : Nat) (bs : List Byte) (hm : Memory.wf s.font s.mem = true) (c : Nat) :
    (s.writeBytes a bs).1.readByte? c =
      if a ≤ c ∧ c < a + bs.length ∧ c < Config.memSize then bs[c - a]? else s.readByte? c := by
  induction bs generalizing s a with
  | nil => simp [State.writeBytes]; omega
  | cons b bs ih =>
    simp only [State.writeBytes]
    split
    · rename_i t h
      rw [ih t _ (State.writeByte?_wf h hm), State.readByte?_writeByte? h hm]
      have ha := (State.writeByte?_eq_some.mp h).1
      by_cases h1 : a + 1 ≤ c ∧ c < a + 1 + bs.length ∧ c < Config.memSize
      · rw [if_pos h1, if_pos (by simp; omega), show c - a = (c - (a + 1)) + 1 by omega]; simp
      · rw [if_neg h1]
        by_cases h2 : c = a
        · subst h2; simp [ha]
        · rw [if_neg h2, if_neg (by simp; omega)]
    · rename_i h
      have ha : ¬ a < Config.memSize := by simp only [State.writeByte?] at h; split at h <;> simp_all
      simp; omega

end Sys2Proof.Machine
end

