-- ==== Sys2Proof/Laws/Ops.lean ====
section
/-! SUPPORT. One lemma per shared operation over registers, the stack, the fetch, the block load, the keypad and a step:
everything it can do. -/

namespace Sys2Proof.Machine

variable (s : State)

theorem State.reg_setReg (x j : RegIdx) (b : Byte) : (s.setReg x b).reg j = if j = x then b else s.reg j := by
  simp only [State.reg, State.setReg, Fin.getElem_fin, Vector.getElem_set, Fin.ext_iff, eq_comm]

/-- The result, then the flag: with `x = 15` the flag is what remains (42 R133). -/
theorem State.reg_setRegFlag (x j : RegIdx) (r f : Byte) :
    (s.setRegFlag x r f).reg j = if j = vf then f else if j = x then r else s.reg j := by
  simp only [State.setRegFlag, State.reg_setReg]

theorem State.reg_setRegLogic (x j : RegIdx) (r : Byte) :
    (s.setRegLogic x r).reg j =
      if s.quirks.vfReset = true ∧ j = vf then 0#8 else if j = x then r else s.reg j := by
  unfold State.setRegLogic
  by_cases h : s.quirks.vfReset = true <;> simp [h, State.reg_setReg, State.reg_setRegFlag]

/-- A logic instruction writes registers only. -/
theorem State.setRegLogic_frame (x : RegIdx) (r : Byte) :
    s.setRegLogic x r = { s with v := (s.setRegLogic x r).v } := by
  unfold State.setRegLogic; split <;> rfl

/-- A skip changes `PC` only. -/
theorem State.skipIf_eq (c : Bool) : s.skipIf c = s.setPc (if c then s.pc + 2#16 else s.pc) := by
  cases c <;> rfl

theorem State.push_of_lt (w : Word) (h : s.sp.val < 16) :
    s.push w = some { s with stack := s.stack.set s.sp.val w, sp := ⟨s.sp.val + 1, by omega⟩ } := by
  simp [State.push, h]

theorem State.push_full (w : Word) (h : s.sp.val = 16) : s.push w = none := by simp [State.push, h]

theorem State.pop_of_pos (k : Nat) (hk : k < 16) (h : s.sp.val = k + 1) :
    s.pop = some (s.stack[k], { s with sp := ⟨k, by omega⟩ }) := by simp [State.pop, h]

theorem State.pop_empty (h : s.sp.val = 0) : s.pop = none := by simp [State.pop, h]

/-- `Push` answers only below the full stack, and then changes the stack only. -/
theorem State.push_eq_some {w : Word} {t : State} (h : s.push w = some t) :
    ∃ hs : s.sp.val < 16, t = { s with stack := s.stack.set s.sp.val w, sp := ⟨s.sp.val + 1, by omega⟩ } := by
  unfold State.push at h
  split at h
  · exact ⟨‹_›, (Option.some.inj h).symm⟩
  · simp at h

/-- `Pop` answers only above the empty stack, with the top entry, and then changes `SP` only. -/
theorem State.pop_eq_some {w : Word} {t : State} (h : s.pop = some (w, t)) :
    ∃ hs : 0 < s.sp.val, w = s.stack[s.sp.val - 1]'(by omega) ∧ t = { s with sp := ⟨s.sp.val - 1, by omega⟩ } := by
  unfold State.pop at h
  split at h
  · simp only [Option.some.injEq, Prod.mk.injEq] at h; exact ⟨‹_›, h.1.symm, h.2.symm⟩
  · simp at h

/-- The word read: the big-endian word where both bytes exist, else the first address that does not (20 R42). -/
theorem State.readWord_eq (a : Nat) :
    s.readWord a =
      if a + 1 < Config.memSize then .ok (wordOfBytes (Memory.get s.font s.mem a) (Memory.get s.font s.mem (a + 1)))
      else .error (max a Config.memSize) := by
  unfold State.readWord State.readByte?
  by_cases h : a + 1 < Config.memSize
  · simp [h, show a < Config.memSize by omega]
  · by_cases h' : a < Config.memSize
    · simp [h, h', show max a Config.memSize = a + 1 by omega]
    · simp [h, h', show max a Config.memSize = a by omega]

/-- The value of a big-endian word. -/
theorem wordOfBytes_toNat (hi lo : Byte) : (wordOfBytes hi lo).toNat = hi.toNat * 256 + lo.toNat := by
  simp only [wordOfBytes, BitVec.toNat_append]
  rw [← Nat.shiftLeft_add_eq_or_of_lt lo.isLt, Nat.shiftLeft_eq]

/-- The block load changes registers only. -/
theorem State.loadRegs_frame (a k n : Nat) : (s.loadRegs a k n).1 = { s with v := (s.loadRegs a k n).1.v } := by
  induction n generalizing s k with
  | zero => rfl
  | succ n ih =>
    simp only [State.loadRegs]
    split
    · rw [ih]; rfl
    · rfl

/-- The block load fails exactly when it reaches the end of the memory, and names the first address there. -/
theorem State.loadRegs_fails (a k n : Nat) :
    (s.loadRegs a k n).2 = if n = 0 ∨ a + k + n ≤ Config.memSize then none else some (max (a + k) Config.memSize) := by
  induction n generalizing s k with
  | zero => rfl
  | succ n ih =>
    simp only [State.loadRegs, State.readByte?]
    by_cases h : a + k < Config.memSize
    · simp only [if_pos h, ih]
      rcases n with _ | n
      · simp; omega
      · simp only [Nat.add_eq_zero_iff, and_false, false_or, one_ne_zero]
        congr 1
        · simp; omega
        · congr 1; omega
    · rw [if_neg h, if_neg (by simp only [Nat.add_eq_zero_iff, one_ne_zero, and_false, false_or]; omega),
        Nat.max_eq_left (by omega)]

/-- The registers after a block load: those in the block whose byte exists hold it, the others are as before. -/
theorem State.reg_loadRegs (a k n : Nat) (hk : k + n ≤ 16) (j : RegIdx) :
    (s.loadRegs a k n).1.reg j =
      if k ≤ j.val ∧ j.val < k + n ∧ a + j.val < Config.memSize then Memory.get s.font s.mem (a + j.val) else s.reg j := by
  induction n generalizing s k with
  | zero => rw [if_neg (by omega)]; rfl
  | succ n ih =>
    simp only [State.loadRegs, State.readByte?]
    by_cases h : a + k < Config.memSize
    · simp only [if_pos h]
      rw [ih _ _ (by omega), State.reg_setReg]
      have hkv : (Fin.ofNat 16 k).val = k := by simp [Fin.ofNat]; omega
      by_cases hj : j.val = k
      · rw [if_neg (by omega), if_pos (Fin.ext (by omega)), if_pos (by omega), hj]
      · have : j ≠ Fin.ofNat 16 k := fun e => hj (by rw [e, hkv])
        by_cases h2 : k + 1 ≤ j.val ∧ j.val < k + 1 + n ∧ a + j.val < Config.memSize
        · rw [if_pos h2, if_pos (by omega)]; rfl
        · rw [if_neg h2, if_neg this, if_neg (by omega)]
    · rw [if_neg h, if_neg (by omega)]

/-- The end of a multi-byte access, by whether it reached the end of the memory. -/
theorem endTransfer_eq (i : Instr) (r : State × Option Nat) (f : State → State) (c : Prop) [Decidable c] (a : Nat)
    (h : r.2 = if c then none else some a) :
    endTransfer i r f = if c then f r.1 else r.1.raise .memFault i a := by
  unfold endTransfer
  by_cases hc : c <;> simp [h, hc]

theorem State.mem_downKeys (k : Fin 16) : k ∈ s.downKeys ↔ s.keys[k] = true := by simp [State.downKeys]

/-- `AnyKey()` answers a key that is down. -/
theorem State.anyKey_some {k : Fin 16} (h : s.anyKey = some k) : s.keys[k] = true := by
  rw [← State.mem_downKeys]
  unfold State.anyKey at h
  split at h
  · simp at h
  · simp_all
  · rename_i hd; rw [hd]; exact List.mem_of_getElem? h

/-- `AnyKey()` answers none exactly when no key is down. -/
theorem State.anyKey_none : s.anyKey = none ↔ ∀ k : Fin 16, s.keys[k] = false := by
  have key : (∀ k : Fin 16, s.keys[k] = false) ↔ s.downKeys = [] := by
    simp [List.eq_nil_iff_forall_not_mem, State.mem_downKeys]
  rw [key]
  unfold State.anyKey
  split
  · simp_all
  · simp_all
  · rename_i k ks hd hne
    have hlt : Config.keyChoice s.draws % (ks.length + 1) < (k :: ks).length := Nat.mod_lt _ (by omega)
    rw [List.getElem?_eq_getElem hlt]; simp [hne]

/-- The legal configurations, on the two flags (43 R146). -/
theorem quirks_legal_iff (q : Quirks) :
    q.legal = true ↔ ¬ (q.memoryIncrementByX = true ∧ q.memoryLeaveIUnchanged = true) := by
  cases h : q.memoryIncrementByX <;> cases h' : q.memoryLeaveIUnchanged <;> simp [Quirks.legal, h, h']

/-- Everything a step that answers a next state can be: a cycle, or another agent's turn; the configuration is legal. -/
theorem takeStep_cases {t : State} (h : takeStep s = .next t) :
    s.quirks.legal = true ∧
      ((s.schedule = [] ∧ runCycle s = .next t) ∨
        ∃ turn rest, s.schedule = turn :: rest ∧ takeTurn turn { s with schedule := rest } = .next t) := by
  unfold takeStep at h
  split at h
  · refine ⟨‹_›, ?_⟩
    split at h
    · exact .inl ⟨‹_›, h⟩
    · exact .inr ⟨_, _, ‹_›, h⟩
  · simp at h

/-- Everything a cycle that answers a next state can be: nothing while halted, the fatal fetch, or the instruction. -/
theorem runCycle_cases {t : State} (h : runCycle s = .next t) :
    (s.run = .halted ∧ t = s) ∨
      (s.run = .running ∧ ∃ a, s.fetch = .error a ∧ t = s.abort .fetchOob 0 s.pc a) ∨
      (s.run = .running ∧ ∃ op, s.fetch = .ok op ∧ exec (decodeWord op) s.skip = .next t) := by
  unfold runCycle at h
  split at h
  · exact .inl ⟨‹_›, by simpa using h.symm⟩
  · split at h
    · exact .inr (.inl ⟨‹_›, _, ‹_›, by simpa using h.symm⟩)
    · exact .inr (.inr ⟨‹_›, _, ‹_›, h⟩)

end Sys2Proof.Machine
end

