-- ==== Sys2Proof/Laws/PerInstr.lean ====
section
/-! SUPPORT. The per-instruction family `LegalEncoding`: the opcode of a well-formed instruction lies in the legal values of
30_encoding R67 exactly when the instruction is not the ILLEGAL sentinel. -/

namespace Sys2Proof

/-- The instruction is one of the 40 families. -/
def Instr.isFamily : Instr → Bool
  | .illegal _ => false
  | _ => true

/-- The opcode of a well-formed instruction is a legal value exactly when the instruction is a family's. -/
def Laws.LegalEncoding.Statement (i : Instr) : Prop := i.wf = true → isLegalWord (encode i) = i.isFamily

namespace Laws.LegalEncoding

theorem cls : Statement (.cls) := fun _ => rfl

theorem ret : Statement (.ret) := fun _ => rfl

theorem jpAddr (nnn : BitVec 12) : Statement (.jpAddr nnn) := fun _ => isLegalWord_nnn _ (by decide) nnn

theorem callAddr (nnn : BitVec 12) : Statement (.callAddr nnn) := fun _ => isLegalWord_nnn _ (by decide) nnn

theorem seImm (x : RegIdx) (kk : Byte) : Statement (.seImm x kk) := fun _ => isLegalWord_xkk _ (by decide) x kk

theorem sneImm (x : RegIdx) (kk : Byte) : Statement (.sneImm x kk) := fun _ => isLegalWord_xkk _ (by decide) x kk

theorem seReg (x : RegIdx) (y : RegIdx) : Statement (.seReg x y) := fun _ => isLegalWord_xy _ _ (by decide) x y

theorem ldImm (x : RegIdx) (kk : Byte) : Statement (.ldImm x kk) := fun _ => isLegalWord_xkk _ (by decide) x kk

theorem addImm (x : RegIdx) (kk : Byte) : Statement (.addImm x kk) := fun _ => isLegalWord_xkk _ (by decide) x kk

theorem ldReg (x : RegIdx) (y : RegIdx) : Statement (.ldReg x y) := fun _ => isLegalWord_xy _ _ (by decide) x y

theorem orReg (x : RegIdx) (y : RegIdx) : Statement (.orReg x y) := fun _ => isLegalWord_xy _ _ (by decide) x y

theorem andReg (x : RegIdx) (y : RegIdx) : Statement (.andReg x y) := fun _ => isLegalWord_xy _ _ (by decide) x y

theorem xorReg (x : RegIdx) (y : RegIdx) : Statement (.xorReg x y) := fun _ => isLegalWord_xy _ _ (by decide) x y

theorem addReg (x : RegIdx) (y : RegIdx) : Statement (.addReg x y) := fun _ => isLegalWord_xy _ _ (by decide) x y

theorem subReg (x : RegIdx) (y : RegIdx) : Statement (.subReg x y) := fun _ => isLegalWord_xy _ _ (by decide) x y

theorem shrReg (x : RegIdx) (y : RegIdx) : Statement (.shrReg x y) := fun _ => isLegalWord_xy _ _ (by decide) x y

theorem subnReg (x : RegIdx) (y : RegIdx) : Statement (.subnReg x y) := fun _ => isLegalWord_xy _ _ (by decide) x y

theorem shlReg (x : RegIdx) (y : RegIdx) : Statement (.shlReg x y) := fun _ => isLegalWord_xy _ _ (by decide) x y

theorem sneReg (x : RegIdx) (y : RegIdx) : Statement (.sneReg x y) := fun _ => isLegalWord_xy _ _ (by decide) x y

theorem ldIAddr (nnn : BitVec 12) : Statement (.ldIAddr nnn) := fun _ => isLegalWord_nnn _ (by decide) nnn

theorem jpV0 (nnn : BitVec 12) : Statement (.jpV0 nnn) := fun _ => isLegalWord_nnn _ (by decide) nnn

theorem rnd (x : RegIdx) (kk : Byte) : Statement (.rnd x kk) := fun _ => isLegalWord_xkk _ (by decide) x kk

theorem drw (x : RegIdx) (y : RegIdx) (n : Fin 16) : Statement (.drw x y n) := fun _ => isLegalWord_xyn _ (by decide) x y _

theorem skp (x : RegIdx) : Statement (.skp x) := fun _ => by revert x; decide

theorem sknp (x : RegIdx) : Statement (.sknp x) := fun _ => by revert x; decide

theorem ldVxDT (x : RegIdx) : Statement (.ldVxDT x) := fun _ => by revert x; decide

theorem ldVxK (x : RegIdx) : Statement (.ldVxK x) := fun _ => by revert x; decide

theorem ldDTVx (x : RegIdx) : Statement (.ldDTVx x) := fun _ => by revert x; decide

theorem ldSTVx (x : RegIdx) : Statement (.ldSTVx x) := fun _ => by revert x; decide

theorem addIVx (x : RegIdx) : Statement (.addIVx x) := fun _ => by revert x; decide

theorem ldFVx (x : RegIdx) : Statement (.ldFVx x) := fun _ => by revert x; decide

theorem ldBVx (x : RegIdx) : Statement (.ldBVx x) := fun _ => by revert x; decide

theorem ldMemVx (x : RegIdx) : Statement (.ldMemVx x) := fun _ => by revert x; decide

theorem ldVxMem (x : RegIdx) : Statement (.ldVxMem x) := fun _ => by revert x; decide

theorem dsv (n : Fin 16) : Statement (.dsv n) := fun _ => by revert n; decide

theorem scr : Statement (.scr) := fun _ => rfl

theorem scl : Statement (.scl) := fun _ => rfl

theorem ext : Statement (.ext) := fun _ => rfl

theorem lrs : Statement (.lrs) := fun _ => rfl

theorem hrs : Statement (.hrs) := fun _ => rfl

theorem illegal (op : Word) : Statement (.illegal op) := fun h => by simpa [Instr.wf, Instr.isFamily, encode] using h

end Laws.LegalEncoding

end Sys2Proof
end

