-- ==== Sys2Proof/Tests/Decode.lean ====
section
/-! SUPPORT. Decode tests: one word per constructor, written out bit by bit from 30_encoding R62 and R66, decodes to the
instruction it stands for; the lists of illegal and of legal boundary encodings of spec/95; the assembler text. -/

namespace Sys2Proof.Tests

/-! ## Decoding: one word per constructor -/

theorem test_decode_cls : decodeWord 0b0000_0000_1110_0000#16 = .cls := by decide
theorem test_decode_ret : decodeWord 0b0000_0000_1110_1110#16 = .ret := by decide
theorem test_decode_jpAddr : decodeWord 0b0001_0010_0011_0100#16 = .jpAddr 0x234#12 := by decide
theorem test_decode_callAddr : decodeWord 0b0010_1111_0000_0001#16 = .callAddr 0xF01#12 := by decide
theorem test_decode_seImm : decodeWord 0b0011_0011_0010_1010#16 = .seImm 3 0x2A#8 := by decide
theorem test_decode_sneImm : decodeWord 0b0100_0011_0010_1010#16 = .sneImm 3 0x2A#8 := by decide
theorem test_decode_seReg : decodeWord 0b0101_0001_0010_0000#16 = .seReg 1 2 := by decide
theorem test_decode_ldImm : decodeWord 0b0110_1010_1000_0101#16 = .ldImm 10 0x85#8 := by decide
theorem test_decode_addImm : decodeWord 0b0111_0000_1111_1111#16 = .addImm 0 0xFF#8 := by decide
theorem test_decode_ldReg : decodeWord 0b1000_1110_1111_0000#16 = .ldReg 14 15 := by decide
theorem test_decode_orReg : decodeWord 0b1000_0001_0010_0001#16 = .orReg 1 2 := by decide
theorem test_decode_andReg : decodeWord 0b1000_0001_0010_0010#16 = .andReg 1 2 := by decide
theorem test_decode_xorReg : decodeWord 0b1000_0001_0010_0011#16 = .xorReg 1 2 := by decide
theorem test_decode_addReg : decodeWord 0b1000_1010_1011_0100#16 = .addReg 10 11 := by decide
theorem test_decode_subReg : decodeWord 0b1000_0001_0010_0101#16 = .subReg 1 2 := by decide
theorem test_decode_shrReg : decodeWord 0b1000_0001_0010_0110#16 = .shrReg 1 2 := by decide
theorem test_decode_subnReg : decodeWord 0b1000_0001_0010_0111#16 = .subnReg 1 2 := by decide
theorem test_decode_shlReg : decodeWord 0b1000_0001_0010_1110#16 = .shlReg 1 2 := by decide
theorem test_decode_sneReg : decodeWord 0b1001_0001_0010_0000#16 = .sneReg 1 2 := by decide
theorem test_decode_ldIAddr : decodeWord 0b1010_0011_0000_0000#16 = .ldIAddr 0x300#12 := by decide
theorem test_decode_jpV0 : decodeWord 0b1011_0010_0011_0100#16 = .jpV0 0x234#12 := by decide
theorem test_decode_rnd : decodeWord 0b1100_0011_0000_1111#16 = .rnd 3 0x0F#8 := by decide
theorem test_decode_drw : decodeWord 0b1101_0001_0010_1111#16 = .drw 1 2 15 := by decide
theorem test_decode_skp : decodeWord 0b1110_0010_1001_1110#16 = .skp 2 := by decide
theorem test_decode_sknp : decodeWord 0b1110_0010_1010_0001#16 = .sknp 2 := by decide
theorem test_decode_ldVxDT : decodeWord 0b1111_0001_0000_0111#16 = .ldVxDT 1 := by decide
theorem test_decode_ldVxK : decodeWord 0b1111_0011_0000_1010#16 = .ldVxK 3 := by decide
theorem test_decode_ldDTVx : decodeWord 0b1111_0001_0001_0101#16 = .ldDTVx 1 := by decide
theorem test_decode_ldSTVx : decodeWord 0b1111_0001_0001_1000#16 = .ldSTVx 1 := by decide
theorem test_decode_addIVx : decodeWord 0b1111_0001_0001_1110#16 = .addIVx 1 := by decide
theorem test_decode_ldFVx : decodeWord 0b1111_0001_0010_1001#16 = .ldFVx 1 := by decide
theorem test_decode_ldBVx : decodeWord 0b1111_0000_0011_0011#16 = .ldBVx 0 := by decide
theorem test_decode_ldMemVx : decodeWord 0b1111_0010_0101_0101#16 = .ldMemVx 2 := by decide
theorem test_decode_ldVxMem : decodeWord 0b1111_0010_0110_0101#16 = .ldVxMem 2 := by decide
theorem test_decode_dsv : decodeWord 0b0000_0000_1100_1001#16 = .dsv 9 := by decide
theorem test_decode_scr : decodeWord 0b0000_0000_1111_1011#16 = .scr := by decide
theorem test_decode_scl : decodeWord 0b0000_0000_1111_1100#16 = .scl := by decide
theorem test_decode_ext : decodeWord 0b0000_0000_1111_1101#16 = .ext := by decide
theorem test_decode_lrs : decodeWord 0b0000_0000_1111_1110#16 = .lrs := by decide
theorem test_decode_hrs : decodeWord 0b0000_0000_1111_1111#16 = .hrs := by decide
theorem test_decode_illegal : decodeWord 0b0000_0001_0010_0011#16 = .illegal 0x0123#16 := by decide

/-- The illegal encodings listed in spec/95, Part 2. -/
theorem test_decode_illegal_list :
    ∀ op ∈ [0x0000#16, 0x0123#16, 0x00E1#16, 0x00FA#16, 0x00B4#16, 0x5121#16, 0x512F#16, 0x8128#16, 0x812D#16, 0x812F#16,
      0x9121#16, 0xE19F#16, 0xE1A0#16, 0xE000#16, 0xF100#16, 0xF130#16, 0xF175#16, 0xF185#16, 0xF1FF#16],
      decodeWord op = .illegal op := by
  simp only [List.forall_mem_cons]
  refine ⟨rfl, rfl, rfl, rfl, rfl, rfl, rfl, rfl, rfl, rfl, rfl, rfl, rfl, rfl, rfl, rfl, rfl, rfl, rfl, nofun⟩

/-- The legal boundary encodings listed in spec/95, Part 2. -/
theorem test_decode_legal_list :
    [0x00C0#16, 0x00CF#16, 0xD120#16, 0x8FF6#16, 0xFF65#16, 0x4000#16, 0x1000#16].map decodeWord =
      [.dsv 0, .dsv 15, .drw 1 2 0, .shrReg 15 15, .ldVxMem 15, .sneImm 0 0, .jpAddr 0] := by rfl

/-- The spellings of 30_encoding R66 and R72. -/
theorem test_assemblyText :
    [Instr.ldImm 10 0x85#8, .drw 1 2 15, .ldVxMem 11, .jpV0 0x234#12].map assemblyText =
      ["LD VA,0x85", "DRW V1,V2,0xF", "LD VB,[I]", "JP V0,0x234"] := rfl

/-- R65: every mask fixes the family nibble, so every registration succeeds. -/
theorem test_masks_fix_the_family_nibble : ∀ r ∈ opcodeMap, r.mask.extractLsb' 12 4 = 0xF#4 := by decide

end Sys2Proof.Tests
end

