-- ==== Sys2Proof/Tests/Slice0.lean ====
section
/-! SUPPORT. The model's own tests: ill-formed terms are refused; one or two small runs of each instruction with the result
taken from spec/95 (the vector is named in the comment). Tests/Decode.lean holds the decode tests, Tests/Witnesses.lean a
concrete case for each statement. -/

namespace Sys2Proof.Tests

open Sys2Proof.Machine

/-! ## Well-formedness -/

/-- 0x00E0 is CLS, so it is no illegal opcode. -/
theorem test_wf_refuses_legal_word_as_illegal : (Instr.illegal 0x00E0#16).wf = false := by decide

/-- 0x8AB4 is ADD Vx,Vy. -/
theorem test_wf_refuses_alu_word_as_illegal : (Instr.illegal 0x8AB4#16).wf = false := by decide

theorem test_wf_accepts_illegal_word : (Instr.illegal 0x0123#16).wf = true := by decide

/-! ## Helpers: `IA` is 0x200, so that `PC` is 0x202 on entry to execution; no key is down; else as after reset -/

def start : State := { State.reset with pc := 0x202#16, keys := Vector.replicate 16 false }

def withRegs (l : List (RegIdx × Byte)) : State := l.foldl (fun s p => s.setReg p.1 p.2) start

def withQuirks (q : Quirks) (s : State) : State := { s with quirks := q }

def poke (a : Nat) (bytes : List Byte) (s : State) : State := (s.writeBytes a bytes).1

def lit (l : List (Nat × Nat)) (s : State) : State := { s with pix := l.foldl (fun g p => g.set p.1 p.2 true) s.pix }

/-- `f` of the next state. -/
def sees {α : Type} (i : Instr) (s : State) (f : State → α) : Option α :=
  match exec i s with
  | .next t => some (f t)
  | _ => none

/-- `f` of the state after one step. -/
def stepSees {α : Type} (s : State) (f : State → α) : Option α :=
  match step s with
  | .next t => some (f t)
  | _ => none

/-! ## Cycle (T1 to T5) -/

/-- T1. -/
theorem test_cycle_last_word :
    stepSees (poke 0xFFE [0x60, 0x2A] { start with pc := 0xFFE#16 }) (fun t => (t.reg 0, t.pc)) = some (0x2A, 0x1000#16) := by
  decide

/-- T3. -/
theorem test_cycle_fetch_fails :
    stepSees { start with pc := 0xFFF#16 } (fun t => (t.pc, t.run, t.err)) =
      some (0xFFF#16, .halted, ⟨.fetchOob, .fatal, 0, 0xFFF#16, 0x1000#17⟩) := by decide

/-- T4: an odd `PC`. -/
theorem test_cycle_odd :
    stepSees (poke 0x201 [0x6A, 0x85] { start with pc := 0x201#16 }) (fun t => (t.reg 10, t.pc)) = some (0x85, 0x203#16) := by
  decide

/-- The first instruction after reset, placed as the host places it (T30). -/
theorem test_withFetchWord :
    stepSees (State.reset.withFetchWord 16 0x6A85) (fun t => (t.reg 10, t.pc)) = some (0x85, 0x202#16) := by decide

/-- P-E, the empty ROM. -/
theorem test_reset_runs_illegal_word :
    stepSees State.reset (fun t => (t.pc, t.err)) = some (0x202#16, ⟨.illegal, .halt, 0, 0x200#16, 0⟩) := by decide

/-! ## Control transfer -/

/-- T16. -/
theorem test_ret : sees .ret { start with sp := 1, stack := start.stack.set 0 0x206#16 } (fun t => (t.pc, t.sp, t.stack[0])) =
    some (0x206#16, 0, 0x206#16) := by decide

/-- T17. -/
theorem test_ret_empty : sees .ret start (fun t => (t.pc, t.err)) =
    some (0x202#16, ⟨.stackUnderflow, .fatal, 0x00EE#16, 0x200#16, 0⟩) := by decide

/-- T11. -/
theorem test_jp_self : sees (.jpAddr 0x20C#12) { start with pc := 0x20E#16 } (fun t => (t.pc, t.err)) =
    some (0x20E#16, ⟨.endlessJump, .halt, 0x120C#16, 0x20C#16, 0⟩) := by decide

/-- T12. -/
theorem test_jp_self_allowed :
    sees (.jpAddr 0x20C#12)
      (withQuirks { Quirks.default with catchEndlessJump := false } { start with pc := 0x20E#16 }) (fun t => (t.pc, t.run)) =
    some (0x20C#16, .running) := by decide

/-- T14. -/
theorem test_call : sees (.callAddr 0x210#12) { start with pc := 0x206#16 } (fun t => (t.pc, t.sp, t.stack[0])) =
    some (0x210#16, 1, 0x206#16) := by decide

/-- T15. -/
theorem test_call_full : sees (.callAddr 0x210#12) { start with sp := 16 } (fun t => (t.pc, t.sp, t.err.cause, t.err.cls)) =
    some (0x202#16, 16, .stackOverflow, .fatal) := by decide

/-- T18. -/
theorem test_seImm : sees (.seImm 3 0x2A) (withRegs [(3, 0x2A)]) (·.pc) = some 0x204#16 := by decide

/-- T25. -/
theorem test_seImm_at_the_end : sees (.seImm 0 0) { start with pc := 0xFFE#16 } (·.pc) = some 0x1000#16 := by decide

/-- T20. -/
theorem test_sneImm : sees (.sneImm 3 0x2A) (withRegs [(3, 0x2A)]) (·.pc) = some 0x202#16 := by decide

/-- T24. -/
theorem test_seReg : sees (.seReg 1 2) (withRegs [(1, 7), (2, 8)]) (·.pc) = some 0x202#16 := by decide

/-- T24. -/
theorem test_sneReg : sees (.sneReg 1 2) (withRegs [(1, 7), (2, 8)]) (·.pc) = some 0x204#16 := by decide

/-- T27. -/
theorem test_jpV0 : sees (.jpV0 0xFFF#12) (withRegs [(0, 0xFF)]) (·.pc) = some 0x10FE#16 := by decide

/-- T26. -/
theorem test_jpV0_quirk :
    sees (.jpV0 0x234#12) (withQuirks { Quirks.default with jump := true } (withRegs [(0, 0x04), (2, 0x10)])) (·.pc) =
      some 0x244#16 := by decide

/-! ## Load and ALU -/

/-- T30. -/
theorem test_ldImm : sees (.ldImm 10 0x85) start (·.reg 10) = some 0x85 := by decide

/-- T33. -/
theorem test_addImm : sees (.addImm 0 0x02) (withRegs [(0, 0xFF), (15, 1)]) (fun t => (t.reg 0, t.reg 15)) = some (1, 1) := by
  decide

/-- T35. -/
theorem test_ldReg : sees (.ldReg 14 15) (withRegs [(15, 1)]) (·.reg 14) = some 1 := by decide

/-- T36. -/
theorem test_orReg : sees (.orReg 1 2) (withRegs [(1, 0xF0), (2, 0x0F), (15, 1)]) (fun t => (t.reg 1, t.reg 15)) =
    some (0xFF, 0) := by decide

/-- T39. -/
theorem test_orReg_vf :
    sees (.orReg 15 1) (withQuirks { Quirks.default with vfReset := false } (withRegs [(15, 0x55), (1, 0xAA)])) (·.reg 15) =
      some 0xFF := by decide

/-- T37. -/
theorem test_andReg : sees (.andReg 1 2) (withRegs [(1, 0xF5), (2, 0x3C), (15, 1)]) (fun t => (t.reg 1, t.reg 15)) =
    some (0x34, 0) := by decide

/-- T38. -/
theorem test_xorReg : sees (.xorReg 1 2) (withRegs [(1, 0xFF), (2, 0x0F), (15, 1)]) (fun t => (t.reg 1, t.reg 15)) =
    some (0xF0, 0) := by decide

/-- T40 and S1. -/
theorem test_addReg : sees (.addReg 1 2) (withRegs [(1, 0xFF), (2, 0x01)]) (fun t => (t.reg 1, t.reg 15)) = some (0, 1) := by
  decide

/-- T44: the flag wins over the sum. -/
theorem test_addReg_vf : sees (.addReg 15 1) (withRegs [(15, 0x10), (1, 0x20)]) (·.reg 15) = some 0 := by decide

/-- T46 and S2. -/
theorem test_subReg : sees (.subReg 1 2) (withRegs [(1, 0x05), (2, 0x0A)]) (fun t => (t.reg 1, t.reg 15)) =
    some (0xFB, 0) := by decide

/-- T48. -/
theorem test_subReg_equal : sees (.subReg 1 2) (withRegs [(1, 7), (2, 7)]) (fun t => (t.reg 1, t.reg 15)) = some (0, 1) := by
  decide

/-- T53. -/
theorem test_shrReg : sees (.shrReg 1 2) (withRegs [(1, 0x05), (2, 0x82)]) (fun t => (t.reg 1, t.reg 15, t.reg 2)) =
    some (0x02, 1, 0x82) := by decide

/-- T53 with the quirk off. -/
theorem test_shrReg_quirk :
    sees (.shrReg 1 2) (withQuirks { Quirks.default with shift := false } (withRegs [(1, 0x05), (2, 0x82)]))
      (fun t => (t.reg 1, t.reg 15)) = some (0x41, 0) := by decide

/-- T52. -/
theorem test_subnReg : sees (.subnReg 1 2) (withRegs [(1, 0x05), (2, 0x0A)]) (fun t => (t.reg 1, t.reg 15, t.reg 2)) =
    some (0x05, 1, 0x0A) := by decide

/-- T54. -/
theorem test_shlReg : sees (.shlReg 1 2) (withRegs [(1, 0x05), (2, 0x82)]) (fun t => (t.reg 1, t.reg 15)) =
    some (0x0A, 0) := by decide

/-- T58. -/
theorem test_shlReg_vf : sees (.shlReg 15 15) (withRegs [(15, 0x81)]) (·.reg 15) = some 1 := by decide

/-- T59: a mask of 0 leaves 0 for every draw. -/
theorem test_rnd : sees (.rnd 3 0x00) start (·.reg 3) = some 0 := by
  show some (Config.randomByte 0 &&& 0#8) = some 0
  simp

/-! ## Index and memory -/

/-- T70. -/
theorem test_ldIAddr : sees (.ldIAddr 0x300#12) start (·.i) = some 0x300#16 := by decide

/-- T71. -/
theorem test_addIVx : sees (.addIVx 1) { withRegs [(1, 0x03)] with i := 0xFFE#16 } (fun t => (t.i, t.reg 15)) =
    some (0x1001#16, 0) := by decide

/-- T72. -/
theorem test_addIVx_wraps : sees (.addIVx 1) { withRegs [(1, 0x02)] with i := 0xFFFF#16 } (·.i) = some 1#16 := by decide

/-- T73 and S7. -/
theorem test_ldFVx :
    sees (.ldFVx 1) (withRegs [(1, 0x1A)]) (fun t => (t.i, (List.range 5).map fun k => t.readByte? (t.i.toNat + k))) =
      some (0x082#16, [some 0xF0, some 0x90, some 0xF0, some 0x90, some 0x90]) := by decide

/-- T75. -/
theorem test_ldBVx :
    sees (.ldBVx 0) { withRegs [(0, 0xEA)] with i := 0x300#16 } (fun t => (List.range 3).map fun k => t.readByte? (0x300 + k)) =
      some [some 2, some 3, some 4] := by decide

/-- T77. -/
theorem test_ldBVx_fails :
    sees (.ldBVx 0) { withRegs [(0, 0xFF)] with i := 0xFFE#16 }
      (fun t => (t.readByte? 0xFFE, t.readByte? 0xFFF, t.i, t.err)) =
      some (some 2, some 5, 0xFFE#16, ⟨.memFault, .halt, 0xF033#16, 0x200#16, 0x1000#17⟩) := by decide

/-- T79. -/
theorem test_ldMemVx :
    sees (.ldMemVx 2) { withRegs [(0, 1), (1, 2), (2, 3)] with i := 0x400#16 }
      (fun t => ((List.range 4).map fun k => t.readByte? (0x400 + k), t.i)) =
      some ([some 1, some 2, some 3, some 0], 0x403#16) := by decide

/-- T81, with V[7] and V[8] as the last register stored and the first that is not. -/
theorem test_ldMemVx_fails :
    sees (.ldMemVx 15) { withRegs [(7, 7), (8, 8)] with i := 0xFF8#16 } (fun t => (t.readByte? 0xFFF, t.i, t.err)) =
      some (some 7, 0xFF8#16, ⟨.memFault, .halt, 0xFF55#16, 0x200#16, 0x1000#17⟩) := by decide

/-- T83. -/
theorem test_ldVxMem :
    sees (.ldVxMem 2) (poke 0x300 [2, 3, 4] { start with i := 0x300#16 }) (fun t => (t.reg 0, t.reg 1, t.reg 2, t.reg 3, t.i)) =
      some (2, 3, 4, 0, 0x303#16) := by decide

/-- T84. -/
theorem test_ldVxMem_fails :
    sees (.ldVxMem 1) (poke 0xFFF [0x77] { withRegs [(1, 0x11)] with i := 0xFFF#16 })
      (fun t => (t.reg 0, t.reg 1, t.i, t.err.maddr)) = some (0x77, 0x11, 0xFFF#16, 0x1000#17) := by decide

/-! ## Display -/

/-- T90. -/
theorem test_cls :
    sees .cls (lit [(1, 1), (5, 5)] (withRegs [(15, 7)])) (fun t => (t.pixel 1 1, t.pixel 5 5, t.dirty, t.reg 15)) =
      some (false, false, true, 7) := rfl

/-- T99. -/
theorem test_drw_collision :
    sees (.drw 0 1 1) (lit [(7, 0)] (poke 0x300 [0x81] { start with i := 0x300#16 }))
      (fun t => (t.pixel 0 0, t.pixel 1 0, t.pixel 7 0, t.reg 15)) = some (true, false, false, 1) := rfl

/-- T96: clipped at the right and at the bottom. -/
theorem test_drw_clips :
    sees (.drw 0 1 2) (poke 0x300 [0xC0, 0xC0] { withRegs [(0, 62), (1, 31)] with i := 0x300#16 })
      (fun t => (t.pixel 62 31, t.pixel 63 31, t.pixel 62 0, t.pixel 0 31, t.reg 15)) = some (true, true, false, false, 0) := rfl

/-- T102. -/
theorem test_scr : sees .scr (lit [(0, 0), (61, 5)] start) (fun t => (t.pixel 0 0, t.pixel 4 0, t.pixel 65 5)) =
    some (false, true, false) := by with_unfolding_all rfl

/-- T103. -/
theorem test_scl : sees .scl (lit [(4, 0), (2, 7)] start) (fun t => (t.pixel 0 0, t.pixel 4 0, t.pixel 2 7)) =
    some (true, false, false) := by with_unfolding_all rfl

/-- T104. -/
theorem test_dsv : sees (.dsv 3) (lit [(3, 0), (3, 30)] start) (fun t => (t.pixel 3 0, t.pixel 3 3, t.pixel 3 30)) =
    some (false, true, false) := by with_unfolding_all rfl

/-- T105: in the normal mode the distance is taken modulo 8. -/
theorem test_dsv_normal : sees (.dsv 9) (lit [(3, 0)] start) (fun t => (t.pixel 3 0, t.pixel 3 1)) = some (false, true) := by
  with_unfolding_all rfl

/-- T107. -/
theorem test_hrs : sees .hrs start (fun t => (t.width, t.height, t.dirty)) = some (128, 64, true) := by decide

/-- T108. -/
theorem test_lrs : sees .lrs { start with extMode := true } (fun t => (t.width, t.height, t.dirty)) = some (64, 32, true) := by
  decide

/-- T109. -/
theorem test_scr_unsupported :
    sees .scr { start with displaySchip := false } (fun t => (t.run, t.err)) =
      some (.halted, ⟨.unsupported, .halt, 0x00FB#16, 0x200#16, 0⟩) := by decide

/-! ## Keypad, timers, system -/

/-- T120. -/
theorem test_skp : sees (.skp 2) { withRegs [(2, 5)] with keys := start.keys.set 5 true } (·.pc) = some 0x204#16 := by decide

/-- T120. -/
theorem test_sknp : sees (.sknp 2) { withRegs [(2, 5)] with keys := start.keys.set 5 true } (·.pc) = some 0x202#16 := by decide

/-- T124. -/
theorem test_ldVxK : sees (.ldVxK 3) { start with keys := start.keys.set 7 true } (fun t => (t.reg 3, t.pc)) =
    some (7, 0x202#16) := by decide

/-- T123. -/
theorem test_ldVxK_waits : sees (.ldVxK 3) { start with pc := 0x212#16 } (fun t => (t.reg 3, t.pc, t.run)) =
    some (0, 0x210#16, .running) := by decide

/-- T126. -/
theorem test_ldVxDT : sees (.ldVxDT 1) { start with dt := 0x3C } (·.reg 1) = some 0x3C := by decide

/-- T127. -/
theorem test_ldDTVx : sees (.ldDTVx 1) (withRegs [(1, 0x3C)]) (·.dt) = some 0x3C := by decide

/-- T128. -/
theorem test_ldSTVx : sees (.ldSTVx 1) (withRegs [(1, 0x02)]) (fun t => (t.st, t.beep)) = some (2, true) := by decide

/-- P-C, the end. -/
theorem test_ext : sees .ext { start with pc := 0x20E#16 } (fun t => (t.pc, t.run, t.err)) =
    some (0x20E#16, .halted, ⟨.exit, .halt, 0x00FD#16, 0x20C#16, 0⟩) := by decide

/-- Part 2, the illegal encodings. -/
theorem test_illegal : sees (.illegal 0xF130#16) start (fun t => (t.pc, t.err)) =
    some (0x202#16, ⟨.illegal, .halt, 0xF130#16, 0x200#16, 0⟩) := by decide

/-- S8: the tick of a timer at 1 and at 0. -/
theorem test_tick :
    (start.setDelayTimer 1).decrementTimers.dt = 0 ∧ start.decrementTimers.dt = 0 ∧
      (start.setSoundTimer 1).decrementTimers.beep = false := by decide

end Sys2Proof.Tests
end

