-- ==== Sys2Proof/Tests/Witnesses.lean ====
section
/-! SUPPORT. Witnesses: for each obligation that has hypotheses, a concrete case that meets them all, clause by clause, at
the ends of each clause's range. `witness_<Name>` belongs to `Obligations.<Name>`. -/

namespace Sys2Proof.Tests

open Sys2Proof.Machine

theorem witness_DecodeOfEncodeIsTheInstruction : (Instr.drw 15 15 15).wf = true ∧ (Instr.illegal 0xFFFF#16).wf = true := by
  decide

/-- Every row's own `match` word meets that row's clause, and 0x0123 the last clause. -/
theorem witness_DecodeFollowsTheOpcodeMap :
    (∀ r ∈ opcodeMap, r.fixed &&& r.mask = r.fixed) ∧ ∀ r ∈ opcodeMap, 0x0123#16 &&& r.mask ≠ r.fixed := by decide

theorem witness_PatternsArePairwiseDisjoint : ∃ r ∈ opcodeMap, 0xFF65#16 &&& r.mask = r.fixed := by decide

/-- The last byte, the first address out of bounds, the last word, and the word that crosses the end. -/
theorem witness_ReadsAreBoundsCheckedAndBigEndian :
    ∃ a b c d : Nat, a < 4096 ∧ 4096 ≤ b ∧ c + 1 < 4096 ∧ d + 1 = 4096 := ⟨4095, 4096, 4094, 4095, by decide⟩

theorem witness_ByteWriteChangesExactlyOneByte :
    Memory.wf start.font start.mem = true ∧ (4095 : Nat) < 4096 ∧ (4096 : Nat) ≤ 4096 := by decide

theorem witness_CanonicalMemoriesThatReadAlikeAreEqual :
    Memory.wf start.font (poke 0xFFF [1] start).mem = true ∧ (poke 0xFFF [1] start).mem ≠ [] := by decide

theorem witness_StoredBytesAreFetchedNext :
    ∃ s : State, Memory.wf s.font s.mem = true ∧ s.quirks.legal = true ∧ s.i.toNat + 1 < 4096 :=
  ⟨{ start with i := 0xFFE#16 }, by decide⟩

/-- The last word of the memory, with the core's turn next and with the core's turn scheduled. -/
theorem witness_StepRunsTheDecodedInstruction :
    ∃ s : State, s.quirks.legal = true ∧ s.run = .running ∧ s.readByte? s.pc.toNat = some 0x60 ∧
      s.readByte? (s.pc.toNat + 1) = some 0x2A ∧ s.schedule = [] ∧
      ({ s with schedule := [.runCycle, .present] }).schedule = .runCycle :: [.present] :=
  ⟨poke 0xFFE [0x60, 0x2A] { start with pc := 0xFFE#16 }, by decide⟩

theorem witness_FetchSucceedsExactlyBelowTheEnd :
    ∃ s t u : State, s.run = .running ∧ s.pc.toNat ≤ 4094 ∧ t.run = .running ∧ 4095 ≤ t.pc.toNat ∧ t.pc.toNat < 4096 ∧
      u.run = .running ∧ 4096 ≤ u.pc.toNat :=
  ⟨{ start with pc := 0xFFE#16 }, { start with pc := 0xFFF#16 }, { start with pc := 0x1000#16 }, by decide⟩

/-- Halted by a fatal cause and by a halt; the tick is an agent's step that is no reset. -/
theorem witness_HaltedCoreDoesNothingUntilReset :
    (∃ s : State, s.run = .halted ∧ s.err.cls = .fatal ∧ takeTurn .decrementTimers s = .next s.decrementTimers ∧
      ∀ full, Turn.decrementTimers ≠ .reset full) ∧
    ∃ s : State, s.run = .halted ∧ s.err.cls = .halt ∧ takeTurn .present s = .next s.present ∧
      ∀ full, Turn.present ≠ .reset full :=
  ⟨⟨start.raise .stackOverflow (.callAddr 0) 0, rfl, rfl, rfl, nofun⟩, ⟨start.raise .exit .ext 0, rfl, rfl, rfl, nofun⟩⟩

theorem witness_StepTakesTheFirstScheduledTurn :
    start.quirks.legal = true ∧ start.schedule = [] ∧
      ({ start with schedule := [.decrementTimers, .present] }).schedule = .decrementTimers :: [.present] := by decide

/-- A byte inside the font and one just outside at either side. -/
theorem witness_ConstructionLeavesTheStatedValues :
    (0x04F : Nat) < Font.default.base.val ∧ Font.default.base.val + 80 ≤ 0x0A0 ∧ (0x0A0 : Nat) < 4096 := by decide

/-- A state with the invariant, whose step is the execution of the illegal word 0x0000 at 0x202. -/
theorem witness_EveryStepKeepsTheInvariant : ∃ s t : State, s.Inv ∧ step s = .next t :=
  ⟨start, _,
    { mem := by decide, beep := by decide, ext := by decide, pixels := fun _ _ _ => Grid.get_blank _ _
      run := fun _ => rfl, halted := nofun, pc := by decide, stack := by decide }, rfl⟩

theorem witness_NoStepChangesTheParameters : ∃ s t : State, step s = .next t := ⟨start, _, rfl⟩

/-- An instruction that cannot fail; one that halts; the same one running on. -/
theorem witness_InstructionsFailOnlyAsListed :
    failureCauses (.rnd 0 0) = [] ∧ (sees .ret start (·.run) = some .halted) ∧
      sees .ret { start with sp := 1 } (·.run) = some .running := by decide

/-- A failure with a memory address and one without. -/
theorem witness_AbortRecordsTheFailingInstruction :
    (∃ s t : State, s.run = .running ∧ exec (.ldMemVx 15) s = .next t ∧ t.run = .halted ∧ t.err.cause = .memFault) ∧
    ∃ s t : State, s.run = .running ∧ exec .ret s = .next t ∧ t.run = .halted ∧ t.err.cause ≠ .memFault :=
  ⟨⟨{ start with i := 0xFFF#16 }, _, rfl, rfl, by decide, by decide⟩, ⟨start, _, rfl, rfl, by decide, by decide⟩⟩

/-- A cycle that ends the run cleanly and one that ends it with a fault. -/
theorem witness_CleanEndsAreExitAndSelfJump :
    (∃ s t : State, s.run = .running ∧ runCycle s = .next t ∧ t.run = .halted ∧ t.err.cause = .endlessJump) ∧
    ∃ s t : State, s.run = .running ∧ runCycle s = .next t ∧ t.run = .halted ∧ t.err.cause = .illegal :=
  ⟨⟨poke 0x202 [0x12, 0x02] start, _, rfl, rfl, by decide, by decide⟩, ⟨start, _, rfl, rfl, by decide, by decide⟩⟩

theorem witness_VBlankQuirkHasNoEffect : ∃ t, exec .ret { start with sp := 16 } = .next t := ⟨_, rfl⟩

theorem witness_DirtyFlagIsInvisibleToPrograms : ∃ t, exec (.drw 0 1 15) start = .next t := ⟨_, rfl⟩

theorem witness_SoundTimerIsNeverRead : ∃ t, exec (.ldVxDT 3) start = .next t := ⟨_, rfl⟩

/-- An empty stack, one entry, a full stack. -/
theorem witness_RetPopsTheStackIntoPc :
    start.sp.val = 0 ∧ (∃ k : Fin 16, ({ start with sp := 1 }).sp.val = k.val + 1) ∧
      ∃ k : Fin 16, ({ start with sp := 16 }).sp.val = k.val + 1 := ⟨by decide, ⟨0, by decide⟩, ⟨15, by decide⟩⟩

/-- A self-jump with the quirk on, a self-jump with it off, a jump elsewhere. -/
theorem witness_JpSetsPcOrCatchesTheSelfJump :
    (start.quirks.catchEndlessJump = true ∧ (0x200#12).toNat = (start.pc - 2).toNat) ∧
    ¬ ((withQuirks { Quirks.default with catchEndlessJump := false } start).quirks.catchEndlessJump = true ∧
      (0x200#12).toNat = (start.pc - 2).toNat) ∧
    ¬ (start.quirks.catchEndlessJump = true ∧ (0xFFF#12).toNat = (start.pc - 2).toNat) := by decide

/-- A full stack, an empty one, one with a single free entry. -/
theorem witness_CallPushesTheReturnAddress :
    ({ start with sp := 16 }).sp.val = 16 ∧ (∃ k : Fin 16, start.sp.val = k.val) ∧
      ∃ k : Fin 16, ({ start with sp := 15 }).sp.val = k.val := ⟨by decide, ⟨0, by decide⟩, ⟨15, by decide⟩⟩

/-- One free entry, and an entry that the CALL does not write. -/
theorem witness_CallThenRetReturnsAfterTheCall :
    ({ start with sp := 15 }).sp.val < 16 ∧ (14 : Fin 16).val ≠ ({ start with sp := 15 }).sp.val := by decide

theorem witness_JpV0AddsTheSelectedRegister : ((15 : RegIdx)).val = (0xFFF#12).toNat / 256 := by decide

/-- The source register under either value of the quirk. -/
theorem witness_ShiftsWriteResultThenBitShiftedOut :
    (∃ b : Byte, b = (if start.quirks.shift then start.reg 1 else start.reg 2)) ∧
    ∃ (s : State) (b : Byte), s.quirks.shift = false ∧ b = (if s.quirks.shift then s.reg 1 else s.reg 2) :=
  ⟨⟨_, rfl⟩, ⟨withQuirks { Quirks.default with shift := false } start, _, rfl, rfl⟩⟩

theorem witness_RndMasksAFreshByte : (0x0F#8).getLsbD 4 = false := by decide

/-- The last place where three bytes fit, and the first where they do not. -/
theorem witness_BcdStoresThreeDigits :
    Memory.wf start.font start.mem = true ∧ (0xFFD#16).toNat + 2 < 4096 ∧ 4096 ≤ (0xFFE#16).toNat + 2 := by decide

/-- The last place where the block fits, and the first where it does not. -/
theorem witness_BlockStoreWritesV0ToVx :
    Memory.wf start.font start.mem = true ∧ start.quirks.legal = true ∧ (0xFF0#16).toNat + (15 : RegIdx).val < 4096 ∧
      4096 ≤ (0xFF1#16).toNat + (15 : RegIdx).val := by decide

theorem witness_BlockLoadReadsV0ToVx :
    start.quirks.legal = true ∧ (0xFF0#16).toNat + (15 : RegIdx).val < 4096 ∧
      4096 ≤ (0xFF1#16).toNat + (15 : RegIdx).val ∧ ((8 : RegIdx) < 15) := by decide

/-- The four settings of the two quirks. -/
theorem witness_BlockTransfersUpdateIndexByQuirks :
    ∀ a b : Bool, ∃ s : State, s.quirks.memoryIncrementByX = a ∧ s.quirks.memoryLeaveIUnchanged = b ∧
      s.i.toNat + (15 : RegIdx).val < 4096 :=
  fun a b => ⟨withQuirks { Quirks.default with memoryIncrementByX := a, memoryLeaveIUnchanged := b }
    { start with i := 0xFF0#16 }, rfl, rfl, by cases a <;> cases b <;> decide⟩

theorem witness_BlockStoreThenLoadRestoresRegisters :
    ∃ s : State, Memory.wf s.font s.mem = true ∧ s.quirks.legal = true ∧ s.i.toNat + (15 : RegIdx).val < 4096 :=
  ⟨{ start with i := 0xFF0#16 }, by decide⟩

/-- A sprite of no rows anywhere; one that just fits; one that does not; a covered pixel, lit. -/
theorem witness_DrwTogglesThePixelsTheSpriteCovers :
    (0 : Fin 16).val = 0 ∧ (0xFF1#16).toNat + (15 : Fin 16).val ≤ 4096 ∧
    ¬ ((15 : Fin 16).val = 0 ∨ (0xFF2#16).toNat + (15 : Fin 16).val ≤ 4096) ∧
    ∃ s : State, 63 < s.width ∧ 31 < s.height ∧ s.pixel 63 31 = true ∧ SpriteCovers s 0 1 1 63 31 :=
  ⟨rfl, by decide, by decide,
    lit [(63, 31)] (poke 0xFFF [0x80] { withRegs [(0, 63), (1, 31)] with i := 0xFFF#16 }), by decide, by decide,
    by decide +kernel, 0, 0, 0x80, by decide, by decide, by decide +kernel, by decide, by decide +kernel⟩

/-- A clear display, and a first draw that lights the corner pixel. -/
theorem witness_DrawingTwiceRestoresTheDisplay :
    ∃ s : State, ((0 : RegIdx) ≠ 15) ∧ ((1 : RegIdx) ≠ 15) ∧ s.i.toNat + (1 : Fin 16).val ≤ 4096 ∧
      (∀ px py, s.pixel px py = false) ∧ 63 < s.width ∧ 31 < s.height ∧
      sees (.drw 0 1 1) s (·.pixel 63 31) = some true :=
  ⟨poke 0xFFF [0x80] { withRegs [(0, 63), (1, 31)] with i := 0xFFF#16 }, by decide, by decide, by decide,
    fun _ _ => Grid.get_blank _ _, by decide, by decide, by decide +kernel⟩

/-- Without the capability, and with it in either resolution. -/
theorem witness_ScrollsMoveEveryPixel :
    ({ start with displaySchip := false }).displaySchip = false ∧
    (start.displaySchip = true ∧ (4 : Nat) = (if start.extMode then 8 else 4)) ∧
    ∃ s : State, s.displaySchip = true ∧ s.extMode = true ∧ (8 : Nat) = (if s.extMode then 8 else 4) ∧
      (15 : Nat) = (if s.extMode then (15 : Fin 16).val % 16 else (15 : Fin 16).val % 8) :=
  ⟨rfl, ⟨rfl, rfl⟩, { start with extMode := true }, rfl, rfl, rfl, rfl⟩

theorem witness_ResolutionSwitchSetsTheSize :
    ({ start with displaySchip := false }).displaySchip = false ∧ start.displaySchip = true := by decide

/-- The last key of the keypad and the first number beyond it. -/
theorem witness_KeySkipsTestTheKeyState :
    (∃ k : Fin 16, ((withRegs [(2, 15)]).reg 2).toNat = k.val) ∧ 15 < ((withRegs [(2, 16)]).reg 2).toNat :=
  ⟨⟨15, by decide⟩, by decide⟩

/-- Two keys down, and none. -/
theorem witness_KeyWaitLoadsADownKeyOrRepeats :
    (∃ k : Fin 16, (({ start with keys := (start.keys.set 2 true).set 7 true }) : State).keys[k] = true) ∧
      ∀ k : Fin 16, start.keys[k] = false := ⟨⟨7, by decide⟩, by decide⟩

/-- Both kinds of reset; a byte at either side of the font. -/
theorem witness_ResetsRestartTheCore :
    (∃ full : Bool, full = false) ∧ (∃ full : Bool, full = true) ∧
      (0x04F : Nat) < start.font.base.val ∧ start.font.base.val + 80 ≤ 0x0A0 := by decide

/-- The longest program that fits, and the shortest that does not. -/
theorem witness_LoadRomCopiesTheProgram :
    Memory.wf start.font start.mem = true ∧ (List.replicate 3584 (0x60 : Byte)).length ≤ 3584 ∧
      3584 < (List.replicate 3585 (0x60 : Byte)).length := by
  exact ⟨by decide, Nat.le_of_eq List.length_replicate, Nat.lt_of_lt_of_eq (by decide) List.length_replicate.symm⟩

end Sys2Proof.Tests
end

section
/-! SUPPORT. 20_memory R42 and R43: what a read and a write of the memory answer on each side of its end, and the
proofs of the two statements about them. -/

namespace Sys2Proof.Machine

variable {s : State} {a : Nat}

theorem State.readByte?_of_lt (h : a < 4096) : s.readByte? a = some (Memory.get s.font s.mem a) := if_pos h

theorem State.readByte?_of_le (h : 4096 ≤ a) : s.readByte? a = none := if_neg (Nat.not_lt.mpr h)

theorem State.readWord_of_lt (h : a + 1 < 4096) :
    s.readWord a = .ok (wordOfBytes (Memory.get s.font s.mem a) (Memory.get s.font s.mem (a + 1))) := by
  rw [State.readWord_eq, Config.memSize, if_pos h]

/-- A word that does not fit fails with the first of its two addresses that is out of bounds. -/
theorem State.readWord_of_le (h : 4096 ≤ a + 1) : s.readWord a = .error (max a 4096) := by
  rw [State.readWord_eq, Config.memSize, if_neg (Nat.not_lt.mpr h)]

theorem State.writeByte?_of_lt (b : Byte) (h : a < 4096) :
    s.writeByte? a b = some { s with mem := Memory.put s.font s.mem a b } := if_pos h

theorem State.writeByte?_of_le (b : Byte) (h : 4096 ≤ a) : s.writeByte? a b = none := if_neg (Nat.not_lt.mpr h)

/-- The frame of every change to the memory cells alone. -/
theorem unchangedBut_memory (s : State) (m : Memory) : UnchangedBut [.memory] s { s with mem := m } := by
  intro p hp
  cases p
  case memory => simp at hp
  all_goals simp [Part.same, State.reg, State.pixel]

/-- Settles O7: one lemma for each side of the end of the memory; at the last byte `max a 4096` is 4096, from 4096 on it
is the address itself. -/
theorem readsAreBoundsCheckedAndBigEndian : Obligations.ReadsAreBoundsCheckedAndBigEndian := by
  intro s a
  refine ⟨fun h => ⟨_, State.readByte?_of_lt h⟩, fun h => ⟨State.readByte?_of_le h, ?outside⟩, fun h => ?inside, fun h => ?last⟩
  case outside => rw [State.readWord_of_le (by omega), Nat.max_eq_left h]
  case inside =>
    exact ⟨_, _, _, State.readByte?_of_lt (by omega), State.readByte?_of_lt h, State.readWord_of_lt h, wordOfBytes_toNat _ _⟩
  case last => rw [State.readWord_of_le (by omega), Nat.max_eq_right (by omega)]

/-- Settles O8: both clauses on reading are the read-after-write law of the canonical memory. -/
theorem byteWriteChangesExactlyOneByte : Obligations.ByteWriteChangesExactlyOneByte := by
  intro s a b hm
  refine ⟨fun h => ?_, State.writeByte?_of_le b⟩
  have hw := State.writeByte?_of_lt (s := s) b h
  have hread := State.readByte?_writeByte? hw hm
  exact ⟨_, hw, by rw [hread, if_pos rfl], fun c hc => by rw [hread, if_neg hc], unchangedBut_memory s _⟩

end Sys2Proof.Machine
end

section
/-! SUPPORT. 40_cycle_and_decoder R80 and R81: what a running cycle does after a fetch that succeeds and after one that
fails, and the proof of the statement about both. -/

namespace Sys2Proof.Machine

variable {s : State}

theorem runCycle_of_fetch_ok {w : Word} (hr : s.run = .running) (hf : s.fetch = .ok w) :
    runCycle s = exec (decodeWord w) s.skip := by
  rw [runCycle, hr, hf]

theorem runCycle_of_fetch_error {a : Nat} (hr : s.run = .running) (hf : s.fetch = .error a) :
    runCycle s = .next (s.abort .fetchOob 0 s.pc a) := by
  rw [runCycle, hr, hf]

/-- Settles O12: the fetch is the word read at `PC`, so the two sides of the end of the memory decide the cycle; the
fatal address `max PC 4096` is `PC` from 4096 on and `PC + 1` at 4095. -/
theorem fetchSucceedsExactlyBelowTheEnd : Obligations.FetchSucceedsExactlyBelowTheEnd := by
  intro s hr
  refine ⟨fun h => ?inside, fun h => ?outside⟩
  case inside =>
    have hf : s.fetch = _ := State.readWord_of_lt (by omega)
    exact ⟨_, _, _, State.readByte?_of_lt (by omega), State.readByte?_of_lt (by omega), hf, wordOfBytes_toNat _ _,
      runCycle_of_fetch_ok hr hf⟩
  case outside =>
    have hf : s.fetch = _ := State.readWord_of_le (by omega)
    have ha : max s.pc.toNat 4096 = if 4096 ≤ s.pc.toNat then s.pc.toNat else s.pc.toNat + 1 := by
      split <;> omega
    rw [runCycle_of_fetch_error hr hf, ha]
    rfl

end Sys2Proof.Machine
end

section
/-! SUPPORT. 41_control_flow R100 to R106: the frames of `PC` and of the stack, the state an instruction's abort leaves, and
what RET, JP and CALL do in each of their cases; then the proofs of the statements about them and about the compare-skips. -/

namespace Sys2Proof.Machine

variable {s : State}

/-- The frame of every change to the stack, `SP` and `PC` alone. -/
theorem unchangedBut_pc_stack (s : State) (st : Vector Word 16) (n : Fin 17) (w : Word) :
    UnchangedBut [.pc, .stack] s { s with stack := st, sp := n, pc := w } := by
  intro p hp
  cases p
  case pc | stack => simp at hp
  all_goals simp [Part.same, State.reg, State.readByte?, State.pixel]

/-- The frame of every change to `PC` alone. -/
theorem unchangedBut_setPc (s : State) (w : Word) : UnchangedBut [.pc] s (s.setPc w) := by
  intro p hp
  cases p
  case pc => simp at hp
  all_goals simp [Part.same, State.reg, State.readByte?, State.pixel]

/-- An abort whose record holds no address leaves what the statements call `abortedWith` (60 R233). -/
theorem State.raise_eq_abortedWith {c : Cause} (h : c.hasAddress = false) (i : Instr) (info : Nat) :
    s.raise c i info = abortedWith s c c.cls (encode i) := by
  simp [State.raise, State.abort, abortedWith, State.ia, h]

theorem zextAddr_toNat (nnn : BitVec 12) : (zextAddr nnn).toNat = nnn.toNat :=
  BitVec.toNat_setWidth_of_le (by decide)

/-! RET, R100 -/

theorem exec_ret_of_empty (h : s.sp.val = 0) :
    exec .ret s = .next (abortedWith s .stackUnderflow .fatal (encode .ret)) := by
  rw [exec, execRet, State.pop_empty s h, State.raise_eq_abortedWith rfl]
  rfl

theorem exec_ret_of_pos (k : Fin 16) (h : s.sp.val = k.val + 1) :
    exec .ret s = .next { s with sp := k.castSucc, pc := s.stack[k] } := by
  rw [exec, execRet, State.pop_of_pos s k.val k.isLt h]
  rfl

/-- Settles O25: an entry is popped exactly when one is in use. -/
theorem retPopsTheStackIntoPc : Obligations.RetPopsTheStackIntoPc :=
  fun s => ⟨exec_ret_of_empty, fun k h =>
    ⟨_, exec_ret_of_pos k h, rfl, rfl, rfl, unchangedBut_pc_stack s s.stack k.castSucc s.stack[k]⟩⟩

/-! JP addr, R101 -/

/-- The caught self-jump, by its quirk and its target. -/
def State.catchesJump (s : State) (nnn : BitVec 12) : Prop :=
  s.quirks.catchEndlessJump = true ∧ nnn.toNat = (s.pc - 2).toNat

/-- The guard of JP decides `catchesJump`: a target equals `IA` exactly when the two are the same number. -/
theorem State.catchesJump_iff (nnn : BitVec 12) :
    s.catchesJump nnn ↔ (s.quirks.catchEndlessJump && zextAddr nnn == s.ia) = true := by
  rw [Bool.and_eq_true, beq_iff_eq, ← BitVec.toNat_inj, zextAddr_toNat]
  rfl

theorem exec_jpAddr_of_caught {nnn : BitVec 12} (h : s.catchesJump nnn) :
    exec (.jpAddr nnn) s = .next (abortedWith s .endlessJump .halt (encode (.jpAddr nnn))) := by
  rw [exec, execJpAddr, if_pos ((State.catchesJump_iff nnn).mp h), State.raise_eq_abortedWith rfl]
  rfl

theorem exec_jpAddr_of_not_caught {nnn : BitVec 12} (h : ¬ s.catchesJump nnn) :
    exec (.jpAddr nnn) s = .next (s.setPc (zextAddr nnn)) := by
  rw [exec, execJpAddr, if_neg fun hc => h ((State.catchesJump_iff nnn).mpr hc)]

/-- Settles O26: the guard's two cases, the caught one ending the run by `E_ENDLESS_JUMP`. -/
theorem jpSetsPcOrCatchesTheSelfJump : Obligations.JpSetsPcOrCatchesTheSelfJump :=
  fun nnn s =>
    ⟨fun h => ⟨_, exec_jpAddr_of_caught h, rfl, rfl, .inr rfl⟩,
      fun h => ⟨_, exec_jpAddr_of_not_caught h, zextAddr_toNat nnn, unchangedBut_setPc s _⟩⟩

/-! CALL addr, R102 -/

theorem exec_callAddr_of_full (nnn : BitVec 12) (h : s.sp.val = 16) :
    exec (.callAddr nnn) s = .next (abortedWith s .stackOverflow .fatal (encode (.callAddr nnn))) := by
  rw [exec, execCallAddr, State.push_full s s.pc h, State.raise_eq_abortedWith rfl]
  rfl

theorem exec_callAddr_of_free (nnn : BitVec 12) (k : Fin 16) (h : s.sp.val = k.val) :
    exec (.callAddr nnn) s = .next { s with stack := s.stack.set k.val s.pc, sp := k.succ, pc := zextAddr nnn } := by
  have hlt : s.sp.val < 16 := h ▸ k.isLt
  rw [exec, execCallAddr, State.push_of_lt s s.pc hlt]
  simp only [State.setPc, h]
  rfl

/-- Settles O27: the entry written is the first free one, `STACK[SP]`. -/
theorem callPushesTheReturnAddress : Obligations.CallPushesTheReturnAddress := by
  refine fun nnn s => ⟨exec_callAddr_of_full nnn, fun k h =>
    ⟨_, exec_callAddr_of_free nnn k h, zextAddr_toNat nnn, rfl, ?pushed, ?others, unchangedBut_pc_stack s _ _ _⟩⟩
  case pushed => exact Vector.getElem_set_self _
  case others => exact fun j hj => Vector.getElem_set_ne k.isLt j.isLt fun e => hj (Fin.ext e.symm)

/-! The compare-skips, R103, R105, R106 -/

theorem State.skipIf_pc_toNat (s : State) (c : Bool) :
    (s.skipIf c).pc.toNat = (s.pc.toNat + if c then 2 else 0) % 65536 := by
  rw [State.skipIf_eq, State.setPc_pc]
  cases c
  · exact (Nat.mod_eq_of_lt s.pc.isLt).symm
  · exact BitVec.toNat_add _ _

theorem unchangedBut_skipIf (s : State) (c : Bool) : UnchangedBut [.pc] s (s.skipIf c) :=
  State.skipIf_eq s c ▸ unchangedBut_setPc s _

/-- An instruction that is a conditional skip moves `PC` by `d` and changes nothing else, where `d` is 2 or 0 by its
condition. -/
theorem exists_next_of_exec_skipIf {i : Instr} {c : Bool} {d : Nat} (hi : exec i s = .next (s.skipIf c))
    (hd : (if c then 2 else 0) = d) :
    ∃ t, exec i s = .next t ∧ t.pc.toNat = (s.pc.toNat + d) % 65536 ∧ UnchangedBut [.pc] s t :=
  ⟨_, hi, hd ▸ State.skipIf_pc_toNat s c, unchangedBut_skipIf s c⟩

theorem skip_distance_of_beq (a b : Byte) : (if a == b then 2 else 0) = if a.toNat = b.toNat then 2 else 0 :=
  if_congr (by rw [beq_iff_eq, BitVec.toNat_inj]) rfl rfl

theorem skip_distance_of_bne (a b : Byte) : (if a != b then 2 else 0) = if a.toNat = b.toNat then 0 else 2 := by
  rw [← ite_not]
  exact if_congr (by rw [bne_iff_ne, Ne, not_not, BitVec.toNat_inj]) rfl rfl

/-- Settles O29: each of the three is a skip on its own comparison. -/
theorem compareSkipsMoveOnlyPc : Obligations.CompareSkipsMoveOnlyPc :=
  fun _ _ _ _ =>
    ⟨exists_next_of_exec_skipIf rfl (skip_distance_of_beq _ _), exists_next_of_exec_skipIf rfl (skip_distance_of_beq _ _),
      exists_next_of_exec_skipIf rfl (skip_distance_of_bne _ _)⟩

end Sys2Proof.Machine
end

section
/-! SUPPORT. 42_load_alu R120 to R130: the frame of the registers, what an instruction that writes one register, a logic
result or a result and its flag does, and the results and flags in exact arithmetic; then the proofs of the statements about
them. -/

namespace Sys2Proof.Machine

variable {s : State} {i : Instr} {x : RegIdx}

/-- The frame of every change to the registers alone. -/
theorem unchangedBut_regs (s : State) (v : Vector Byte 16) : UnchangedBut [.regs] s { s with v := v } := by
  intro p hp
  cases p
  case regs => simp at hp
  all_goals simp [Part.same, State.readByte?, State.pixel]

/-! The three ways these instructions write: one register, a logic result, a result and its flag -/

theorem exists_next_of_exec_setReg {b b' : Byte} (hi : exec i s = .next (s.setReg x b)) (hb : b = b') :
    ∃ t, exec i s = .next t ∧ (∀ j, t.reg j = if j = x then b' else s.reg j) ∧ UnchangedBut [.regs] s t :=
  ⟨_, hi, hb ▸ fun j => State.reg_setReg s x j b, unchangedBut_regs s _⟩

theorem exists_next_of_exec_setRegLogic {r : Byte} (hi : exec i s = .next (s.setRegLogic x r)) :
    ∃ t, exec i s = .next t ∧ UnchangedBut [.regs] s t ∧
      ∀ j, t.reg j = if s.quirks.vfReset = true ∧ j = 15 then 0 else if j = x then r else s.reg j :=
  ⟨_, hi, State.setRegLogic_frame s x r ▸ unchangedBut_regs s _, fun j => State.reg_setRegLogic s x j r⟩

theorem exists_next_of_exec_setRegFlag {r f r' f' : Byte} (hi : exec i s = .next (s.setRegFlag x r f)) (hr : r = r')
    (hf : f = f') :
    ∃ t, exec i s = .next t ∧ UnchangedBut [.regs] s t ∧
      ∀ j, t.reg j = if j = 15 then f' else if j = x then r' else s.reg j :=
  ⟨_, hi, unchangedBut_regs s _, hr ▸ hf ▸ fun j => State.reg_setRegFlag s x j r f⟩

/-! The results and the flags in exact arithmetic -/

theorem byte_add_eq_ofNat (a b : Byte) : a + b = BitVec.ofNat 8 ((a.toNat + b.toNat) % 256) :=
  BitVec.eq_of_toNat_eq (by simp)

theorem byte_sub_eq_ofNat (a b : Byte) : a - b = BitVec.ofNat 8 ((a.toNat + 256 - b.toNat) % 256) := by
  apply BitVec.eq_of_toNat_eq
  have hb : b.toNat < 256 := b.isLt
  simp only [BitVec.toNat_sub, BitVec.toNat_ofNat]
  omega

theorem byte_shiftRight_one_eq_ofNat (a : Byte) : a >>> 1 = BitVec.ofNat 8 (a.toNat / 2) := by
  apply BitVec.eq_of_toNat_eq
  have ha : a.toNat < 256 := a.isLt
  simp only [BitVec.toNat_ushiftRight, BitVec.toNat_ofNat, Nat.shiftRight_eq_div_pow]
  omega

theorem byte_shiftLeft_one_eq_ofNat (a : Byte) : a <<< 1 = BitVec.ofNat 8 (a.toNat * 2 % 256) :=
  BitVec.eq_of_toNat_eq (by simp [Nat.shiftLeft_eq])

theorem flagByte_decide (p : Prop) [Decidable p] : flagByte (decide p) = if p then 1 else 0 := by
  by_cases h : p <;> simp [flagByte, h]

theorem flagByte_eq_ofNat (b : Bool) : flagByte b = BitVec.ofNat 8 b.toNat := by
  cases b <;> rfl

theorem shiftedOutRight_eq_ofNat (a : Byte) : shiftedOutRight a = BitVec.ofNat 8 (a.toNat % 2) := by
  rw [shiftedOutRight, flagByte_eq_ofNat, BitVec.getLsbD, Nat.toNat_testBit, Nat.pow_zero, Nat.div_one]

/-- Bit 7 is the whole of what division by 128 leaves of a byte. -/
theorem shiftedOutLeft_eq_ofNat (a : Byte) : shiftedOutLeft a = BitVec.ofNat 8 (a.toNat / 128) := by
  have ha : a.toNat / 2 ^ 7 < 2 := Nat.div_lt_of_lt_mul a.isLt
  rw [shiftedOutLeft, flagByte_eq_ofNat, BitVec.getLsbD, Nat.toNat_testBit, Nat.mod_eq_of_lt ha]
  rfl

/-- Settles O33: each of the three writes a logic result. -/
theorem logicCombinesBitsAndResetsVf : Obligations.LogicCombinesBitsAndResetsVf :=
  fun _ _ _ =>
    ⟨exists_next_of_exec_setRegLogic rfl, exists_next_of_exec_setRegLogic rfl, exists_next_of_exec_setRegLogic rfl⟩

/-- Settles O34: the result is the sum, the flag its carry. -/
theorem addWritesSumThenCarry : Obligations.AddWritesSumThenCarry :=
  fun _ _ _ => exists_next_of_exec_setRegFlag rfl (byte_add_eq_ofNat _ _) (flagByte_decide _)

/-- Settles O35: the two differ in which operand is the minuend alone. -/
theorem subtractionsWriteDifferenceThenNoBorrow : Obligations.SubtractionsWriteDifferenceThenNoBorrow :=
  fun _ _ _ =>
    ⟨exists_next_of_exec_setRegFlag rfl (byte_sub_eq_ofNat _ _) (flagByte_decide _),
      exists_next_of_exec_setRegFlag rfl (byte_sub_eq_ofNat _ _) (flagByte_decide _)⟩

/-- Settles O36: the byte shifted is the model's `shiftSource`, the register the quirk selects. -/
theorem shiftsWriteResultThenBitShiftedOut : Obligations.ShiftsWriteResultThenBitShiftedOut := by
  intro x y s b hb
  obtain rfl : b = s.shiftSource x y := hb
  exact ⟨exists_next_of_exec_setRegFlag rfl (byte_shiftRight_one_eq_ofNat _) (shiftedOutRight_eq_ofNat _),
    exists_next_of_exec_setRegFlag rfl (byte_shiftLeft_one_eq_ofNat _) (shiftedOutLeft_eq_ofNat _)⟩

/-- Settles O32: each of the three writes one register; ADD's sum wraps modulo 256. -/
theorem loadsAndAddImmediateWriteOneRegister : Obligations.LoadsAndAddImmediateWriteOneRegister :=
  fun _ _ _ _ =>
    ⟨exists_next_of_exec_setReg rfl rfl, exists_next_of_exec_setReg rfl (byte_add_eq_ofNat _ _),
      exists_next_of_exec_setReg rfl rfl⟩

end Sys2Proof.Machine
end

section
/-! SUPPORT. 43_index_memory R140 and R142: the frame of `I`, what an instruction that writes `I` alone does, and a glyph's
address in exact arithmetic; then the proof of the statement about the two loads. -/

namespace Sys2Proof.Machine

variable {s : State} {i : Instr}

/-- The frame of every change to `I` alone. -/
theorem unchangedBut_setI (s : State) (w : Word) : UnchangedBut [.index] s (s.setI w) := by
  intro p hp
  cases p
  case index => simp at hp
  all_goals simp [Part.same, State.reg, State.readByte?, State.pixel]

theorem exists_next_of_exec_setI {w : Word} {n : Nat} (hi : exec i s = .next (s.setI w)) (hw : w.toNat = n) :
    ∃ t, exec i s = .next t ∧ t.i.toNat = n ∧ UnchangedBut [.index] s t :=
  ⟨_, hi, hw, unchangedBut_setI s w⟩

theorem byte_and_lowNibble_toNat (b : Byte) : (b &&& 0x0F#8).toNat = b.toNat % 16 :=
  Nat.and_two_pow_sub_one_eq_mod b.toNat 4

/-- A glyph's address fits in 16 bits: `FONT_BASE` is at most 432 by its type, and the offset at most 75. -/
theorem State.glyphAddr_toNat (s : State) (x : RegIdx) :
    (s.glyphAddr x).toNat = s.font.base.val + 5 * ((s.reg x).toNat % 16) := by
  rw [State.glyphAddr, byte_and_lowNibble_toNat, BitVec.toNat_ofNat]
  exact Nat.mod_eq_of_lt (by omega)

/-- Settles O38: each of the two is a write of `I`. -/
theorem indexLoadsWriteOnlyI : Obligations.IndexLoadsWriteOnlyI :=
  fun nnn x s => ⟨exists_next_of_exec_setI rfl (zextAddr_toNat nnn), exists_next_of_exec_setI rfl (s.glyphAddr_toNat x)⟩

end Sys2Proof.Machine
end

section
/-! SUPPORT. 44_display R160: the frame of a change to the display alone, and the proof of the statement about CLS. -/

namespace Sys2Proof.Machine

/-- The frame of every change to the pixels and `DIRTY` alone. -/
theorem unchangedBut_pixels_dirty (s : State) (g : Grid) (b : Bool) :
    UnchangedBut [.pixels, .dirty] s { s with pix := g, dirty := b } := by
  intro p hp
  cases p
  case pixels | dirty => simp at hp
  all_goals simp [Part.same, State.reg, State.readByte?]

/-- Settles O45: CLS blanks the grid and marks it dirty, in every state. -/
theorem clsClearsEveryPixel : Obligations.ClsClearsEveryPixel :=
  fun s => ⟨_, rfl, s.pixel_clearDisplay, s.clearDisplay.setDirty_dirty, unchangedBut_pixels_dirty s Grid.blank true⟩

end Sys2Proof.Machine
end

section
/-! SUPPORT. 45_keypad_timers_system R183 to R185 and R187: the frames of the two timers, and the proofs of the statements
about the timer instructions and the ILLEGAL sentinel. -/

namespace Sys2Proof.Machine

/-- The frame of every change to `DT` alone. -/
theorem unchangedBut_setDelayTimer (s : State) (b : Byte) : UnchangedBut [.delay] s (s.setDelayTimer b) := by
  intro p hp
  cases p
  case delay => simp at hp
  all_goals simp [Part.same, State.reg, State.readByte?, State.pixel]

/-- The frame of every change to `ST` and the beeper alone. -/
theorem unchangedBut_setSoundTimer (s : State) (b : Byte) : UnchangedBut [.sound] s (s.setSoundTimer b) := by
  intro p hp
  cases p
  case sound => simp at hp
  all_goals simp [Part.same, State.reg, State.readByte?, State.pixel]

theorem State.setSoundTimer_beep_iff (s : State) (b : Byte) : (s.setSoundTimer b).beep = true ↔ 0 < b.toNat := by
  rw [State.setSoundTimer_beep, decide_eq_true_iff]

/-- Settles O52: the first of the three writes one register, the other two one timer each, `ST` together with the beeper. -/
theorem timerInstructionsMoveTheTimers : Obligations.TimerInstructionsMoveTheTimers :=
  fun x s =>
    ⟨exists_next_of_exec_setReg rfl rfl,
      ⟨_, rfl, s.setDelayTimer_dt (s.reg x), unchangedBut_setDelayTimer s (s.reg x)⟩,
      ⟨_, rfl, s.setSoundTimer_st (s.reg x), s.setSoundTimer_beep_iff (s.reg x), unchangedBut_setSoundTimer s (s.reg x)⟩⟩

theorem exec_illegal (op : Word) (s : State) :
    exec (.illegal op) s = .next (abortedWith s .illegal .halt op) := by
  rw [exec, execIllegal, State.raise_eq_abortedWith rfl]
  rfl

/-- Settles O54: `E_ILLEGAL` has class halt, and is neither of the two causes of a clean end. -/
theorem illegalHaltsTheCore : Obligations.IllegalHaltsTheCore :=
  fun op s => ⟨_, exec_illegal op s, rfl, rfl, rfl, Cause.noConfusion, Cause.noConfusion⟩

end Sys2Proof.Machine
end

section
/-! SUPPORT. 30_encoding R61 to R71: the formats and the masks of the opcode map, the row that the decoder answers, and
the proofs of the statements about the encoder and the decoder. -/

namespace Sys2Proof

/-- The family nibble, `op[15:12]` (R65). -/
def family (op : Word) : BitVec 4 := op.extractLsb' 12 4

theorem family_toNat (op : Word) : (family op).toNat = op.toNat / 4096 := by
  simp only [family, BitVec.extractLsb'_toNat, Nat.shiftRight_eq_div_pow]
  omega

/-! The fields of an opcode, put back by the format (R61, R62) -/

theorem encXKK_fields (op : Word) : encXKK (family op) (fieldX op) (fieldKK op) = op := by
  apply BitVec.eq_of_toNat_eq
  rw [encXKK_toNat, family_toNat, fieldX_val, fieldKK_toNat]
  omega

theorem encX_fields (op : Word) : encX (family op) (fieldX op) (fieldKK op) = op := encXKK_fields op

theorem encNNN_fields (op : Word) : encNNN (family op) (fieldNNN op) = op := by
  apply BitVec.eq_of_toNat_eq
  rw [encNNN_toNat, family_toNat, fieldNNN_toNat]
  omega

theorem encXY_fields (op : Word) : encXY (family op) (fieldX op) (fieldY op) (nibble (fieldN op)) = op := by
  apply BitVec.eq_of_toNat_eq
  rw [encXY_toNat, family_toNat, fieldX_val, fieldY_val, nibble_toNat, fieldN_val]
  omega

theorem append_fieldN (op : Word) : op.extractLsb' 4 12 ++ nibble (fieldN op) = op := by
  apply BitVec.eq_of_toNat_eq
  rw [toNat_append_add, nibble_toNat, fieldN_val, BitVec.extractLsb'_toNat, Nat.shiftRight_eq_div_pow]
  omega

/-! The fields of a format (R61, R62) -/

theorem family_encXKK (f : BitVec 4) (x : RegIdx) (kk : Byte) : family (encXKK f x kk) = f := by
  apply BitVec.eq_of_toNat_eq
  rw [family_toNat, encXKK_toNat]
  omega

theorem fieldX_encXKK (f : BitVec 4) (x : RegIdx) (kk : Byte) : fieldX (encXKK f x kk) = x := by
  apply Fin.ext
  rw [fieldX_val, encXKK_toNat]
  omega

theorem fieldKK_encXKK (f : BitVec 4) (x : RegIdx) (kk : Byte) : fieldKK (encXKK f x kk) = kk := by
  apply BitVec.eq_of_toNat_eq
  rw [fieldKK_toNat, encXKK_toNat]
  omega

theorem family_encNNN (f : BitVec 4) (nnn : BitVec 12) : family (encNNN f nnn) = f := by
  apply BitVec.eq_of_toNat_eq
  rw [family_toNat, encNNN_toNat]
  omega

theorem fieldNNN_encNNN (f : BitVec 4) (nnn : BitVec 12) : fieldNNN (encNNN f nnn) = nnn := by
  apply BitVec.eq_of_toNat_eq
  rw [fieldNNN_toNat, encNNN_toNat]
  omega

theorem family_encXY (f : BitVec 4) (x y : RegIdx) (g : BitVec 4) : family (encXY f x y g) = f := by
  apply BitVec.eq_of_toNat_eq
  rw [family_toNat, encXY_toNat]
  omega

theorem fieldX_encXY (f : BitVec 4) (x y : RegIdx) (g : BitVec 4) : fieldX (encXY f x y g) = x := by
  apply Fin.ext
  rw [fieldX_val, encXY_toNat]
  omega

theorem fieldY_encXY (f : BitVec 4) (x y : RegIdx) (g : BitVec 4) : fieldY (encXY f x y g) = y := by
  apply Fin.ext
  rw [fieldY_val, encXY_toNat]
  omega

theorem fieldN_encXY (f : BitVec 4) (x y : RegIdx) (g : BitVec 4) : fieldN (encXY f x y g) = g.toFin := by
  apply Fin.ext
  rw [fieldN_val, encXY_toNat]
  change _ = g.toNat
  omega

theorem fieldN_append (h : BitVec 12) (n : Fin 16) : fieldN (h ++ nibble n) = n := by
  apply Fin.ext
  rw [fieldN_val, toNat_append_add, nibble_toNat]
  omega

/-! What each mask keeps of its format: the fixed bits (R66) -/

theorem encXKK_and_mask (f : BitVec 4) (x : RegIdx) (kk : Byte) : encXKK f x kk &&& 0xF000#16 = encXKK f 0 0 := by
  rw [encXKK, show 0xF000#16 = BitVec.allOnes 4 ++ 0#4 ++ 0#8 from rfl, BitVec.and_append, BitVec.and_append,
    BitVec.and_allOnes, BitVec.and_zero, BitVec.and_zero]
  rfl

theorem encNNN_and_mask (f : BitVec 4) (nnn : BitVec 12) : encNNN f nnn &&& 0xF000#16 = encNNN f 0 := by
  rw [encNNN, show 0xF000#16 = BitVec.allOnes 4 ++ 0#12 from rfl, BitVec.and_append, BitVec.and_allOnes, BitVec.and_zero]
  rfl

theorem encXY_and_mask (f : BitVec 4) (x y : RegIdx) (g : BitVec 4) :
    encXY f x y g &&& 0xF00F#16 = encXY f 0 0 g := by
  rw [encXY, show 0xF00F#16 = BitVec.allOnes 4 ++ 0#4 ++ 0#4 ++ BitVec.allOnes 4 from rfl, BitVec.and_append,
    BitVec.and_append, BitVec.and_append, BitVec.and_allOnes, BitVec.and_allOnes, BitVec.and_zero, BitVec.and_zero]
  rfl

theorem encX_and_mask (f : BitVec 4) (x : RegIdx) (g : Byte) : encX f x g &&& 0xF0FF#16 = encX f 0 g := by
  rw [encX, show 0xF0FF#16 = BitVec.allOnes 4 ++ 0#4 ++ BitVec.allOnes 8 from rfl, BitVec.and_append, BitVec.and_append,
    BitVec.and_allOnes, BitVec.and_allOnes, BitVec.and_zero]
  rfl

theorem append_and_mask (h : BitVec 12) (n : Fin 16) : (h ++ nibble n) &&& 0xFFF0#16 = h ++ nibble 0 := by
  rw [show 0xFFF0#16 = BitVec.allOnes 12 ++ 0#4 from rfl, BitVec.and_append, BitVec.and_allOnes, BitVec.and_zero]
  rfl

theorem word_and_mask (op : Word) : op &&& 0xFFFF#16 = op := BitVec.and_allOnes

/-! The five kinds of pattern, as conditions on the opcode's value -/

theorem and_F000_eq_iff (op w : Word) : op &&& 0xF000#16 = w ↔ op.toNat / 4096 * 4096 = w.toNat := by
  conv_lhs => rw [← encXKK_fields op, encXKK_and_mask, ← BitVec.toNat_inj, encXKK_toNat, family_toNat]
  simp

theorem and_F00F_eq_iff (op w : Word) :
    op &&& 0xF00F#16 = w ↔ op.toNat / 4096 * 4096 + op.toNat % 16 = w.toNat := by
  conv_lhs =>
    rw [← encXY_fields op, encXY_and_mask, ← BitVec.toNat_inj, encXY_toNat, family_toNat, nibble_toNat, fieldN_val]
  simp

theorem and_F0FF_eq_iff (op w : Word) :
    op &&& 0xF0FF#16 = w ↔ op.toNat / 4096 * 4096 + op.toNat % 256 = w.toNat := by
  conv_lhs =>
    rw [← encX_fields op, encX_and_mask, ← BitVec.toNat_inj, encX_toNat, family_toNat, fieldKK_toNat]
  simp

theorem and_FFF0_eq_iff (op w : Word) : op &&& 0xFFF0#16 = w ↔ op.toNat / 16 * 16 = w.toNat := by
  have hhi : (op.extractLsb' 4 12).toNat = op.toNat / 16 := by
    simp only [BitVec.extractLsb'_toNat, Nat.shiftRight_eq_div_pow]
    omega
  conv_lhs => rw [← append_fieldN op, append_and_mask, ← BitVec.toNat_inj, toNat_append_add, nibble_toNat, hhi]
  simp

theorem and_FFFF_eq_iff (op w : Word) : op &&& 0xFFFF#16 = w ↔ op.toNat = w.toNat := by
  rw [word_and_mask, BitVec.toNat_inj]

/-! The decoder's answer is the row that matches, wherever it stands (R69) -/

/-- Two rows conflict when they differ in a bit that both fix. -/
def OpcodeRow.conflicts (r q : OpcodeRow) : Prop := r.fixed &&& q.mask ≠ q.fixed &&& r.mask

theorem opcodeMap_conflicts : opcodeMap.Pairwise OpcodeRow.conflicts := by
  unfold OpcodeRow.conflicts
  decide

theorem OpcodeRow.conflicts.not_both_match {r q : OpcodeRow} (hc : r.conflicts q) (op : Word) :
    ¬ (op &&& r.mask = r.fixed ∧ op &&& q.mask = q.fixed) := by
  rintro ⟨hr, hq⟩
  exact hc (by rw [← hr, ← hq, BitVec.and_assoc, BitVec.and_assoc, BitVec.and_comm r.mask])

theorem decodeWord_of_mem {op : Word} {r : OpcodeRow} (hr : r ∈ opcodeMap) (h : op &&& r.mask = r.fixed) :
    decodeWord op = r.bind op := by
  have hsymm : Std.Symm OpcodeRow.conflicts := ⟨fun _ _ => Ne.symm⟩
  rcases hf : opcodeMap.find? (fun r => r.matches op) with _ | q
  · exact absurd (beq_iff_eq.mpr h) (List.find?_eq_none.mp hf r hr)
  · have hq : op &&& q.mask = q.fixed := beq_iff_eq.mp (List.find?_some hf :)
    have hrq : r = q := by
      by_contra hne
      exact (opcodeMap_conflicts.forall hr (List.mem_of_find?_eq_some hf) hne).not_both_match op ⟨h, hq⟩
    simp only [decodeWord, hf, hrq]

theorem decodeWord_of_no_match {op : Word} (h : ∀ r ∈ opcodeMap, op &&& r.mask ≠ r.fixed) :
    decodeWord op = .illegal op := by
  have hf : opcodeMap.find? (fun r => r.matches op) = none :=
    List.find?_eq_none.mpr fun r hr hm => h r hr (beq_iff_eq.mp hm)
  simp only [decodeWord, hf]

/-- The row of index `k`, when its pattern matches. -/
theorem decodeWord_of_row {op : Word} (k : Fin 40) (h : op &&& (opcodeMap[k]).mask = (opcodeMap[k]).fixed) :
    decodeWord op = (opcodeMap[k]).bind op :=
  decodeWord_of_mem (List.getElem_mem _) h

/-- Settles O5: rows that conflict match no common opcode. -/
theorem patternsArePairwiseDisjoint : Obligations.PatternsArePairwiseDisjoint :=
  ⟨rfl, by decide, opcodeMap_conflicts.imp OpcodeRow.conflicts.not_both_match, fun _ _ => decodeWord_of_mem⟩

/-- Settles O3: clause by clause, the row of that index is the decoder's answer. -/
theorem decodeFollowsTheOpcodeMap : Obligations.DecodeFollowsTheOpcodeMap := fun _ =>
  ⟨decodeWord_of_row 0, decodeWord_of_row 1, decodeWord_of_row 2, decodeWord_of_row 3, decodeWord_of_row 4,
    decodeWord_of_row 5, decodeWord_of_row 6, decodeWord_of_row 7, decodeWord_of_row 8, decodeWord_of_row 9,
    decodeWord_of_row 10, decodeWord_of_row 11, decodeWord_of_row 12, decodeWord_of_row 13, decodeWord_of_row 14,
    decodeWord_of_row 15, decodeWord_of_row 16, decodeWord_of_row 17, decodeWord_of_row 18, decodeWord_of_row 19,
    decodeWord_of_row 20, decodeWord_of_row 21, decodeWord_of_row 22, decodeWord_of_row 23, decodeWord_of_row 24,
    decodeWord_of_row 25, decodeWord_of_row 26, decodeWord_of_row 27, decodeWord_of_row 28, decodeWord_of_row 29,
    decodeWord_of_row 30, decodeWord_of_row 31, decodeWord_of_row 32, decodeWord_of_row 33, decodeWord_of_row 34,
    decodeWord_of_row 35, decodeWord_of_row 36, decodeWord_of_row 37, decodeWord_of_row 38, decodeWord_of_row 39,
    decodeWord_of_no_match⟩

/-- Settles O6: each word is computed by the decoder. -/
theorem wordsWrittenOutDecodeAsTheSpecSays : Obligations.WordsWrittenOutDecodeAsTheSpecSays :=
  ⟨rfl, rfl, rfl, rfl, rfl, rfl, rfl, rfl⟩

/-! The encoder undoes what a row binds -/

/-- An opcode has the bits of a row's match value wherever the row's mask is all ones. -/
theorem extractLsb'_of_and_eq {op mask w : Word} (h : op &&& mask = w) (k n : Nat)
    (hm : mask.extractLsb' k n = BitVec.allOnes n) : op.extractLsb' k n = w.extractLsb' k n := by
  rw [← h, BitVec.extractLsb'_and, hm, BitVec.and_allOnes]

section
variable {op : Word}

theorem encXKK_of_match (f : BitVec 4) (h : op &&& 0xF000#16 = encXKK f 0 0) :
    encXKK f (fieldX op) (fieldKK op) = op := by
  have hf : family op = f := (extractLsb'_of_and_eq h 12 4 rfl).trans (family_encXKK f 0 0)
  rw [← hf, encXKK_fields]

theorem encNNN_of_match (f : BitVec 4) (h : op &&& 0xF000#16 = encNNN f 0) : encNNN f (fieldNNN op) = op := by
  have hf : family op = f := (extractLsb'_of_and_eq h 12 4 rfl).trans (family_encNNN f 0)
  rw [← hf, encNNN_fields]

theorem encXY_of_match (f g : BitVec 4) (h : op &&& 0xF00F#16 = encXY f 0 0 g) :
    encXY f (fieldX op) (fieldY op) g = op := by
  have hf : family op = f := (extractLsb'_of_and_eq h 12 4 rfl).trans (family_encXY f 0 0 g)
  have hg : nibble (fieldN op) = g :=
    congrArg nibble ((congrArg BitVec.toFin (extractLsb'_of_and_eq h 0 4 rfl)).trans (fieldN_encXY f 0 0 g))
  rw [← hf, ← hg, encXY_fields]

theorem encXY_of_match_nibble (f : BitVec 4) (h : op &&& 0xF000#16 = encXKK f 0 0) :
    encXY f (fieldX op) (fieldY op) (nibble (fieldN op)) = op := by
  have hf : family op = f := (extractLsb'_of_and_eq h 12 4 rfl).trans (family_encXKK f 0 0)
  rw [← hf, encXY_fields]

theorem encX_of_match (f : BitVec 4) (g : Byte) (h : op &&& 0xF0FF#16 = encX f 0 g) : encX f (fieldX op) g = op := by
  have hf : family op = f := (extractLsb'_of_and_eq h 12 4 rfl).trans (family_encXKK f 0 g)
  have hg : fieldKK op = g := (extractLsb'_of_and_eq h 0 8 rfl).trans (fieldKK_encXKK f 0 g)
  rw [← hf, ← hg, encX_fields]

theorem append_of_match (b : BitVec 12) (h : op &&& 0xFFF0#16 = b ++ 0#4) : b ++ nibble (fieldN op) = op := by
  have hb : op.extractLsb' 4 12 = b := (extractLsb'_of_and_eq h 4 12 rfl).trans BitVec.extractLsb'_append_eq_left
  rw [← hb, append_fieldN]

theorem word_of_match {w : Word} (h : op &&& 0xFFFF#16 = w) : w = op := by
  rw [← h, word_and_mask]

/-- Row by row, in the order of the map. -/
theorem encode_bind : ∀ r ∈ opcodeMap, op &&& r.mask = r.fixed → encode (r.bind op) = op := by
  simp only [opcodeMap, opcodeRows1, opcodeRows2, opcodeRows3, opcodeRows4, List.cons_append, List.nil_append,
    List.forall_mem_cons]
  exact
    ⟨word_of_match, word_of_match, encNNN_of_match 0x1, encNNN_of_match 0x2, encXKK_of_match 0x3, encXKK_of_match 0x4,
      encXY_of_match 0x5 0x0, encXKK_of_match 0x6, encXKK_of_match 0x7, encXY_of_match 0x8 0x0, encXY_of_match 0x8 0x1,
      encXY_of_match 0x8 0x2, encXY_of_match 0x8 0x3, encXY_of_match 0x8 0x4, encXY_of_match 0x8 0x5,
      encXY_of_match 0x8 0x6, encXY_of_match 0x8 0x7, encXY_of_match 0x8 0xE, encXY_of_match 0x9 0x0,
      encNNN_of_match 0xA, encNNN_of_match 0xB, encXKK_of_match 0xC, encXY_of_match_nibble 0xD, encX_of_match 0xE 0x9E,
      encX_of_match 0xE 0xA1, encX_of_match 0xF 0x07, encX_of_match 0xF 0x0A, encX_of_match 0xF 0x15,
      encX_of_match 0xF 0x18, encX_of_match 0xF 0x1E, encX_of_match 0xF 0x29, encX_of_match 0xF 0x33,
      encX_of_match 0xF 0x55, encX_of_match 0xF 0x65, append_of_match 0x00C, word_of_match, word_of_match,
      word_of_match, word_of_match, word_of_match, nofun⟩

end

/-! The decoder undoes the encoder, family by family -/

section
variable (k : Fin 40) (f g : BitVec 4) (b : Byte) (x y : RegIdx)

theorem decodeWord_encXKK (kk : Byte) {c : RegIdx → Byte → Instr} (hm : (opcodeMap[k]).mask = 0xF000#16)
    (hf : (opcodeMap[k]).fixed = encXKK f 0 0) (hb : (opcodeMap[k]).bind = fun op => c (fieldX op) (fieldKK op)) :
    decodeWord (encXKK f x kk) = c x kk := by
  rw [decodeWord_of_row k (by rw [hm, hf, encXKK_and_mask]), hb]
  simp only [fieldX_encXKK, fieldKK_encXKK]

theorem decodeWord_encNNN (nnn : BitVec 12) {c : BitVec 12 → Instr} (hm : (opcodeMap[k]).mask = 0xF000#16)
    (hf : (opcodeMap[k]).fixed = encNNN f 0) (hb : (opcodeMap[k]).bind = fun op => c (fieldNNN op)) :
    decodeWord (encNNN f nnn) = c nnn := by
  rw [decodeWord_of_row k (by rw [hm, hf, encNNN_and_mask]), hb]
  simp only [fieldNNN_encNNN]

theorem decodeWord_encXY {c : RegIdx → RegIdx → Instr} (hm : (opcodeMap[k]).mask = 0xF00F#16)
    (hf : (opcodeMap[k]).fixed = encXY f 0 0 g) (hb : (opcodeMap[k]).bind = fun op => c (fieldX op) (fieldY op)) :
    decodeWord (encXY f x y g) = c x y := by
  rw [decodeWord_of_row k (by rw [hm, hf, encXY_and_mask]), hb]
  simp only [fieldX_encXY, fieldY_encXY]

theorem decodeWord_encX {c : RegIdx → Instr} (hm : (opcodeMap[k]).mask = 0xF0FF#16)
    (hf : (opcodeMap[k]).fixed = encX f 0 b) (hb : (opcodeMap[k]).bind = fun op => c (fieldX op)) :
    decodeWord (encX f x b) = c x := by
  rw [decodeWord_of_row k (by rw [hm, hf, encX_and_mask]), hb]
  exact congrArg c (fieldX_encXKK f x b)

end

theorem decodeWord_drw (x y : RegIdx) (n : Fin 16) : decodeWord (encode (.drw x y n)) = .drw x y n := by
  have hmatch : encode (.drw x y n) &&& 0xF000#16 = 0xD000#16 := by
    rw [and_F000_eq_iff, encode, encXY_toNat]
    change (0xD * 4096 + x.val * 256 + y.val * 16 + n.val) / 4096 * 4096 = 0xD000
    omega
  rw [decodeWord_of_row 22 hmatch, encode]
  change Instr.drw _ _ _ = _
  simp only [fieldX_encXY, fieldY_encXY, fieldN_encXY]
  rfl

theorem decodeWord_dsv (n : Fin 16) : decodeWord (encode (.dsv n)) = .dsv n :=
  (decodeWord_of_row 34 (append_and_mask 0x00C n)).trans (congrArg Instr.dsv (fieldN_append 0x00C n))

/-! The illegal space: the opcodes that match no row -/

/-- The legal values by family nibble are those some row matches: for each nibble, arithmetic on the opcode's value. -/
theorem isLegalWord_iff_match (op : Word) :
    isLegalWord op = true ↔ ∃ r ∈ opcodeMap, op &&& r.mask = r.fixed := by
  simp only [opcodeMap, opcodeRows1, opcodeRows2, opcodeRows3, opcodeRows4, List.cons_append, List.nil_append,
    List.exists_mem_cons_iff, and_F000_eq_iff, and_F00F_eq_iff, and_F0FF_eq_iff, and_FFF0_eq_iff, and_FFFF_eq_iff,
    BitVec.reduceToNat]
  obtain ⟨f, hf⟩ : ∃ f, op.toNat / 4096 = f := ⟨_, rfl⟩
  have hlt : f < 16 := by omega
  rw [hf]
  interval_cases f <;> simp [isLegalWord, hf]
  all_goals omega

/-- Every row binds one of the 40 families. -/
theorem bind_isFamily (op : Word) : ∀ r ∈ opcodeMap, (r.bind op).isFamily = true := by
  simp [opcodeMap, opcodeRows1, opcodeRows2, opcodeRows3, opcodeRows4, Instr.isFamily]

theorem wf_of_isFamily : ∀ {i : Instr}, i.isFamily = true → i.wf = true := by
  intro i h
  cases i
  case illegal => exact absurd h Bool.false_ne_true
  all_goals rfl

theorem decodeWord_of_legal {op : Word} (h : isLegalWord op = true) :
    (decodeWord op).isFamily = true ∧ encode (decodeWord op) = op := by
  obtain ⟨r, hr, hop⟩ := (isLegalWord_iff_match op).mp h
  rw [decodeWord_of_mem hr hop]
  exact ⟨bind_isFamily op r hr, encode_bind r hr hop⟩

theorem decodeWord_of_not_legal {op : Word} (h : isLegalWord op = false) : decodeWord op = .illegal op :=
  decodeWord_of_no_match fun r hr hop =>
    Bool.false_ne_true (h.symm.trans ((isLegalWord_iff_match op).mpr ⟨r, hr, hop⟩))

theorem decodeWord_eq_illegal_iff (op : Word) : decodeWord op = .illegal op ↔ ¬ isLegalWord op = true := by
  refine ⟨fun h hl => ?_, fun h => decodeWord_of_not_legal (Bool.eq_false_iff.mpr h)⟩
  have hfam := (decodeWord_of_legal hl).1
  rw [h] at hfam
  exact Bool.false_ne_true hfam

/-- Settles O2: a legal opcode is encoded back by its row, an illegal one by the sentinel. -/
theorem encodeOfDecodeIsTheWord : Obligations.EncodeOfDecodeIsTheWord := by
  intro op
  by_cases h : isLegalWord op = true
  · obtain ⟨hfam, henc⟩ := decodeWord_of_legal h
    exact ⟨wf_of_isFamily hfam, henc⟩
  · rw [(decodeWord_eq_illegal_iff op).mpr h]
    exact ⟨by rw [Instr.wf, Bool.eq_false_iff.mpr h, Bool.not_false], rfl⟩

/-- Settles O4: the sentinel stands for the opcodes that are not legal, and the table of R67 is `isLegalWord`, nibble by
nibble. -/
theorem illegalWordsAreThoseOutsideTheTable : Obligations.IllegalWordsAreThoseOutsideTheTable := by
  intro op
  rw [decodeWord_eq_illegal_iff]
  refine not_congr ?_
  obtain ⟨f, hf⟩ : ∃ f, op.toNat / 4096 = f := ⟨_, rfl⟩
  have hlt : f < 16 := by omega
  rw [hf]
  interval_cases f <;> simp [isLegalWord, hf, or_assoc]

/-- Family by family, the row of that index; the sentinel's opcode matches no row. -/
theorem decodeWord_encode : ∀ i : Instr, i.wf = true → decodeWord (encode i) = i
  | .cls, _ | .ret, _ | .scr, _ | .scl, _ | .ext, _ | .lrs, _ | .hrs, _ => rfl
  | .jpAddr nnn, _ => decodeWord_encNNN 2 0x1 nnn rfl rfl rfl
  | .callAddr nnn, _ => decodeWord_encNNN 3 0x2 nnn rfl rfl rfl
  | .seImm x kk, _ => decodeWord_encXKK 4 0x3 x kk rfl rfl rfl
  | .sneImm x kk, _ => decodeWord_encXKK 5 0x4 x kk rfl rfl rfl
  | .seReg x y, _ => decodeWord_encXY 6 0x5 0x0 x y rfl rfl rfl
  | .ldImm x kk, _ => decodeWord_encXKK 7 0x6 x kk rfl rfl rfl
  | .addImm x kk, _ => decodeWord_encXKK 8 0x7 x kk rfl rfl rfl
  | .ldReg x y, _ => decodeWord_encXY 9 0x8 0x0 x y rfl rfl rfl
  | .orReg x y, _ => decodeWord_encXY 10 0x8 0x1 x y rfl rfl rfl
  | .andReg x y, _ => decodeWord_encXY 11 0x8 0x2 x y rfl rfl rfl
  | .xorReg x y, _ => decodeWord_encXY 12 0x8 0x3 x y rfl rfl rfl
  | .addReg x y, _ => decodeWord_encXY 13 0x8 0x4 x y rfl rfl rfl
  | .subReg x y, _ => decodeWord_encXY 14 0x8 0x5 x y rfl rfl rfl
  | .shrReg x y, _ => decodeWord_encXY 15 0x8 0x6 x y rfl rfl rfl
  | .subnReg x y, _ => decodeWord_encXY 16 0x8 0x7 x y rfl rfl rfl
  | .shlReg x y, _ => decodeWord_encXY 17 0x8 0xE x y rfl rfl rfl
  | .sneReg x y, _ => decodeWord_encXY 18 0x9 0x0 x y rfl rfl rfl
  | .ldIAddr nnn, _ => decodeWord_encNNN 19 0xA nnn rfl rfl rfl
  | .jpV0 nnn, _ => decodeWord_encNNN 20 0xB nnn rfl rfl rfl
  | .rnd x kk, _ => decodeWord_encXKK 21 0xC x kk rfl rfl rfl
  | .drw x y n, _ => decodeWord_drw x y n
  | .skp x, _ => decodeWord_encX 23 0xE 0x9E x rfl rfl rfl
  | .sknp x, _ => decodeWord_encX 24 0xE 0xA1 x rfl rfl rfl
  | .ldVxDT x, _ => decodeWord_encX 25 0xF 0x07 x rfl rfl rfl
  | .ldVxK x, _ => decodeWord_encX 26 0xF 0x0A x rfl rfl rfl
  | .ldDTVx x, _ => decodeWord_encX 27 0xF 0x15 x rfl rfl rfl
  | .ldSTVx x, _ => decodeWord_encX 28 0xF 0x18 x rfl rfl rfl
  | .addIVx x, _ => decodeWord_encX 29 0xF 0x1E x rfl rfl rfl
  | .ldFVx x, _ => decodeWord_encX 30 0xF 0x29 x rfl rfl rfl
  | .ldBVx x, _ => decodeWord_encX 31 0xF 0x33 x rfl rfl rfl
  | .ldMemVx x, _ => decodeWord_encX 32 0xF 0x55 x rfl rfl rfl
  | .ldVxMem x, _ => decodeWord_encX 33 0xF 0x65 x rfl rfl rfl
  | .dsv n, _ => decodeWord_dsv n
  | .illegal _, h => decodeWord_of_not_legal ((Bool.not_eq_true' _).mp h)

/-- The big-endian word of an opcode's two bytes is the opcode. -/
theorem wordOfBytes_extractLsb' (w : Word) : wordOfBytes (w.extractLsb' 8 8) (w.extractLsb' 0 8) = w := by
  apply BitVec.eq_of_toNat_eq
  rw [wordOfBytes, toNat_append_add, BitVec.extractLsb'_toNat, BitVec.extractLsb'_toNat, Nat.shiftRight_eq_div_pow,
    Nat.shiftRight_zero]
  omega

/-- Settles O1: the two bytes hold the opcode, and the opcode decodes to the instruction. -/
theorem decodeOfEncodeIsTheInstruction : Obligations.DecodeOfEncodeIsTheInstruction := by
  intro i rest hwf
  rw [encodeBytes, List.cons_append, List.cons_append, List.nil_append, decode, wordOfBytes_extractLsb',
    decodeWord_encode i hwf]

end Sys2Proof
end

section
/-! SUPPORT. Frames compose: what two changes in a row leave unchanged, and the frames of an abort and of a draw. -/

namespace Sys2Proof.Machine

theorem Part.same.trans {s t u : State} {p : Part} (hst : p.same s t) (htu : p.same t u) : p.same s u := by
  cases p
  case regs => exact fun j => (htu j).trans (hst j)
  case memory => exact fun a => (htu a).trans (hst a)
  case pixels => exact fun x y => (htu x y).trans (hst x y)
  case stack | sound | status => exact ⟨htu.1.trans hst.1, htu.2.trans hst.2⟩
  case parameters => exact ⟨htu.1.trans hst.1, htu.2.1.trans hst.2.1, htu.2.2.trans hst.2.2⟩
  all_goals exact Eq.trans htu hst

theorem UnchangedBut.mono {ps qs : List Part} {s t : State} (h : UnchangedBut ps s t) (hsub : ps ⊆ qs) :
    UnchangedBut qs s t :=
  fun p hp => h p fun hp' => hp (hsub hp')

theorem UnchangedBut.trans {ps qs : List Part} {s t u : State} (hst : UnchangedBut ps s t) (htu : UnchangedBut qs t u) :
    UnchangedBut (ps ++ qs) s u := by
  intro p hp
  rw [List.mem_append, not_or] at hp
  exact (hst p hp.1).trans (htu p hp.2)

theorem unchangedBut_raise (s : State) (c : Cause) (i : Instr) (n : Nat) : UnchangedBut [.status] s (s.raise c i n) := by
  intro p hp
  cases p
  case status => simp at hp
  all_goals simp [Part.same, State.reg, State.readByte?, State.pixel]

theorem unchangedBut_draws (s : State) (n : Nat) : UnchangedBut [.draws] s { s with draws := n } := by
  intro p hp
  cases p
  case draws => simp at hp
  all_goals simp [Part.same, State.reg, State.readByte?, State.pixel]

end Sys2Proof.Machine
end

section
/-! SUPPORT. 20_memory R20, R50 and R56, 43_index_memory R143 to R146: the canonical memory is determined by what it reads,
what a multi-byte access does on each side of the end of the memory, and the proofs of the statements about the block
transfers, LD B and LoadRom. -/

namespace Sys2Proof.Machine

/-! The canonical form is unique (R20) -/

theorem Memory.get_cons_self (f : Font) (a : Nat) (x : Byte) (rest : Memory) :
    Memory.get f ((a, x) :: rest) a = x := if_pos rfl

/-- A memory whose first cell is below all of another's reads differently there. -/
theorem Memory.get_first_ne {f : Font} {lo lo' a : Nat} {x : Byte} {rest n : Memory}
    (hm : Memory.wfFrom f lo ((a, x) :: rest) = true) (hn : Memory.wfFrom f lo' n = true) (h : a < lo') :
    a < Config.memSize ∧ Memory.get f ((a, x) :: rest) a ≠ Memory.get f n a := by
  obtain ⟨-, ha, hx, -⟩ := (Memory.wfFrom_cons f lo a x rest).mp hm
  rw [Memory.get_cons_self, Memory.get_below f n lo' hn a h]
  exact ⟨ha, hx⟩

/-- The tails of two memories that read alike and have the same first cell read alike: below their first cell neither
lists anything, above it they are what is read. -/
theorem Memory.get_tail_eq {f : Font} {a : Nat} {x : Byte} {m n : Memory} (hm : Memory.wfFrom f (a + 1) m = true)
    (hn : Memory.wfFrom f (a + 1) n = true)
    (h : ∀ c, c < Config.memSize → Memory.get f ((a, x) :: m) c = Memory.get f ((a, x) :: n) c) :
    ∀ c, c < Config.memSize → Memory.get f m c = Memory.get f n c := by
  intro c hc
  by_cases hca : c < a + 1
  · rw [Memory.get_below f m _ hm c hca, Memory.get_below f n _ hn c hca]
  · have hne : c ≠ a := by omega
    have hcell := h c hc
    rwa [Memory.get, Memory.get, if_neg hne, if_neg hne] at hcell

theorem Memory.eq_of_get_eq {f : Font} {lo : Nat} {m n : Memory} (hm : Memory.wfFrom f lo m = true)
    (hn : Memory.wfFrom f lo n = true) (h : ∀ c, c < Config.memSize → Memory.get f m c = Memory.get f n c) : m = n := by
  induction m generalizing lo n with
  | nil =>
    cases n with
    | nil => rfl
    | cons cell rest =>
      obtain ⟨hlt, hne⟩ := Memory.get_first_ne (n := []) hn rfl (Nat.lt_succ_self cell.1)
      exact absurd (h _ hlt).symm hne
  | cons cell rest ih =>
    obtain ⟨a, x⟩ := cell
    obtain ⟨hlo, ha, hx, hrest⟩ := (Memory.wfFrom_cons f lo a x rest).mp hm
    cases n with
    | nil =>
      obtain ⟨hlt, hne⟩ := Memory.get_first_ne (n := []) hm rfl (Nat.lt_succ_self a)
      exact absurd (h _ hlt) hne
    | cons cell' rest' =>
      obtain ⟨b, y⟩ := cell'
      obtain ⟨hlo', hb, hy, hrest'⟩ := (Memory.wfFrom_cons f lo b y rest').mp hn
      rcases Nat.lt_trichotomy a b with hab | rfl | hab
      · have hn' := (Memory.wfFrom_cons f b b y rest').mpr ⟨le_rfl, hb, hy, hrest'⟩
        obtain ⟨hlt, hne⟩ := Memory.get_first_ne hm hn' hab
        exact absurd (h _ hlt) hne
      · have hxy : x = y := by simpa only [Memory.get_cons_self] using h a ha
        subst hxy
        rw [ih hrest hrest' (Memory.get_tail_eq hrest hrest' h)]
      · have hm' := (Memory.wfFrom_cons f a a x rest).mpr ⟨le_rfl, ha, hx, hrest⟩
        obtain ⟨hlt, hne⟩ := Memory.get_first_ne hn hm' hab
        exact absurd (h _ hlt).symm hne

/-- Settles O9: by induction on the first memory, whose first cell must be the other's. -/
theorem canonicalMemoriesThatReadAlikeAreEqual : Obligations.CanonicalMemoriesThatReadAlikeAreEqual :=
  fun _ _ _ => Memory.eq_of_get_eq

/-! A store and a load of several bytes, on each side of the end of the memory (R143 to R145) -/

section
variable {s u : State} {i : Instr} {bs : List Byte} {w : Word} {x : RegIdx} {f : State → State}

theorem endTransfer_writeBytes_of_le (h : s.i.toNat + bs.length ≤ 4096) :
    endTransfer i (s.writeBytes (s.ea 0) bs) f = f (s.writeBytes (s.ea 0) bs).1 :=
  (endTransfer_eq i _ f _ _ (s.writeBytes_fails (s.ea 0) bs)).trans (if_pos (.inr h))

theorem endTransfer_writeBytes_of_lt (hbs : bs ≠ []) (h : 4096 < s.i.toNat + bs.length) :
    endTransfer i (s.writeBytes (s.ea 0) bs) f =
      (s.writeBytes (s.ea 0) bs).1.raise .memFault i (max s.i.toNat 4096) :=
  (endTransfer_eq i _ f _ _ (s.writeBytes_fails (s.ea 0) bs)).trans (if_neg (not_or_intro hbs (Nat.not_le.mpr h)))

theorem endTransfer_loadRegs_of_lt (h : s.i.toNat + x.val < 4096) :
    endTransfer i (s.loadRegs (s.ea 0) 0 (x.val + 1)) f = f (s.loadRegs (s.ea 0) 0 (x.val + 1)).1 :=
  (endTransfer_eq i _ f _ _ (s.loadRegs_fails (s.ea 0) 0 (x.val + 1))).trans (if_pos (.inr h))

theorem endTransfer_loadRegs_of_le (h : 4096 ≤ s.i.toNat + x.val) :
    endTransfer i (s.loadRegs (s.ea 0) 0 (x.val + 1)) f =
      (s.loadRegs (s.ea 0) 0 (x.val + 1)).1.raise .memFault i (max s.i.toNat 4096) :=
  (endTransfer_eq i _ f _ _ (s.loadRegs_fails (s.ea 0) 0 (x.val + 1))).trans
    (if_neg (not_or_intro (Nat.succ_ne_zero _) (Nat.not_le.mpr (Nat.lt_succ_of_le h))))

theorem unchangedBut_writeBytes (s : State) (a : Nat) (bs : List Byte) :
    UnchangedBut [.memory] s (s.writeBytes a bs).1 :=
  State.writeBytes_frame s a bs ▸ unchangedBut_memory s _

theorem unchangedBut_loadRegs (s : State) (a k n : Nat) : UnchangedBut [.regs] s (s.loadRegs a k n).1 :=
  State.loadRegs_frame s a k n ▸ unchangedBut_regs s _

/-- A memory fault records `IA` as long as what was done before it left `PC`. -/
theorem raise_memFault_err (h : Part.pc.same s u) (i : Instr) (a : Nat) :
    (u.raise .memFault i a).err = memFaultRecord s (encode i) a := by
  change u.pc = s.pc at h
  rw [State.raise_err, State.ia, h]
  rfl

/-- An instruction that stores the bytes `bs` at `I` and then goes on by `f`, which leaves the memory. -/
theorem exec_store (hbs : bs ≠ []) (hf : ∀ t a, (f t).readByte? a = t.readByte? a)
    (hi : exec i s = .next (endTransfer i (s.writeBytes (s.ea 0) bs) f)) :
    ∃ t, exec i s = .next t ∧ (∀ a, t.readByte? a = (s.writeBytes (s.ea 0) bs).1.readByte? a) ∧
      (s.i.toNat + bs.length ≤ 4096 → t = f (s.writeBytes (s.ea 0) bs).1) ∧
      (4096 < s.i.toNat + bs.length → t.run = .halted ∧ t.err = memFaultRecord s (encode i) (max s.i.toNat 4096) ∧
        UnchangedBut [.memory, .status] s t) := by
  have hst := unchangedBut_writeBytes s (s.ea 0) bs
  by_cases h : s.i.toNat + bs.length ≤ 4096
  · rw [endTransfer_writeBytes_of_le h] at hi
    exact ⟨_, hi, hf _, fun _ => rfl, fun h' => absurd h (Nat.not_le.mpr h')⟩
  · rw [endTransfer_writeBytes_of_lt hbs (Nat.not_le.mp h)] at hi
    exact ⟨_, hi, fun _ => rfl, fun h' => absurd h' h, fun _ =>
      ⟨rfl, raise_memFault_err (hst .pc (by decide)) i _, hst.trans (unchangedBut_raise _ _ _ _)⟩⟩

/-- An instruction that loads V0 to `V[x]` from `I` and then sets `I` to `w`. -/
theorem exec_load (hi : exec i s = .next (endTransfer i (s.loadRegs (s.ea 0) 0 (x.val + 1)) fun t => t.setI w)) :
    ∃ t, exec i s = .next t ∧ (∀ k, t.reg k = (s.loadRegs (s.ea 0) 0 (x.val + 1)).1.reg k) ∧
      (s.i.toNat + x.val < 4096 → t = (s.loadRegs (s.ea 0) 0 (x.val + 1)).1.setI w) ∧
      (4096 ≤ s.i.toNat + x.val → t.run = .halted ∧ t.err = memFaultRecord s (encode i) (max s.i.toNat 4096) ∧
        UnchangedBut [.regs, .status] s t) := by
  have hst := unchangedBut_loadRegs s (s.ea 0) 0 (x.val + 1)
  by_cases h : s.i.toNat + x.val < 4096
  · rw [endTransfer_loadRegs_of_lt h] at hi
    exact ⟨_, hi, fun _ => rfl, fun _ => rfl, fun h' => absurd h (Nat.not_lt.mpr h')⟩
  · rw [endTransfer_loadRegs_of_le (Nat.not_lt.mp h)] at hi
    exact ⟨_, hi, fun _ => rfl, fun h' => absurd h' h, fun _ =>
      ⟨rfl, raise_memFault_err (hst .pc (by decide)) i _, hst.trans (unchangedBut_raise _ _ _ _)⟩⟩

/-! What memory reads after a store, and the registers after a load -/

theorem readByte?_writeBytes_inside (hm : Memory.wf s.font s.mem = true) {a k : Nat} {b : Byte} (hb : bs[k]? = some b)
    (h : a + k < 4096) : (s.writeBytes a bs).1.readByte? (a + k) = some b := by
  have hk : k < bs.length := (List.getElem?_eq_some_iff.mp hb).1
  rw [State.readByte?_writeBytes s a bs hm, if_pos ⟨Nat.le_add_right a k, Nat.add_lt_add_left hk a, h⟩,
    Nat.add_sub_cancel_left, hb]

theorem readByte?_writeBytes_outside (hm : Memory.wf s.font s.mem = true) {a c : Nat}
    (h : c < a ∨ a + bs.length ≤ c) : (s.writeBytes a bs).1.readByte? c = s.readByte? c := by
  rw [State.readByte?_writeBytes s a bs hm, if_neg (by omega)]

theorem reg_loadRegs_inside (a : Nat) {k : RegIdx} (hk : k ≤ x) (h : a + k.val < 4096) :
    s.readByte? (a + k.val) = some ((s.loadRegs a 0 (x.val + 1)).1.reg k) := by
  have hkx : k.val < 0 + (x.val + 1) := by
    rw [Nat.zero_add]
    exact Nat.lt_succ_of_le hk
  rw [State.reg_loadRegs s a 0 (x.val + 1) (by omega), if_pos ⟨Nat.zero_le _, hkx, h⟩, State.readByte?_of_lt h]

theorem reg_loadRegs_outside (a : Nat) {k : RegIdx} (h : x < k ∨ 4096 ≤ a + k.val) :
    (s.loadRegs a 0 (x.val + 1)).1.reg k = s.reg k := by
  have hout : x.val < k.val ∨ 4096 ≤ a + k.val := h
  rw [State.reg_loadRegs s a 0 (x.val + 1) (by omega), if_neg (by rw [Config.memSize]; omega)]

/-! The four instructions and LoadRom -/

theorem indexAfterBlock_of_legal {q : Quirks} (h : q.legal = true) (w : Word) (x : RegIdx) :
    ∃ w', indexAfterBlock q w x = some w' ∧ w'.toNat = blockIndex q w x := by
  unfold indexAfterBlock blockIndex
  rw [quirks_legal_iff] at h
  cases hinc : q.memoryIncrementByX <;> cases hleave : q.memoryLeaveIUnchanged
  case true.true => exact absurd ⟨hinc, hleave⟩ h
  all_goals simp [Nat.add_assoc]

theorem bcdDigits_getElem? (b : Byte) {k : Nat} (hk : k < 3) :
    (bcdDigits b)[k]? = some (BitVec.ofNat 8
      (if k = 0 then b.toNat / 100 else if k = 1 then b.toNat / 10 % 10 else b.toNat % 10)) := by
  interval_cases k <;> rfl

theorem blockRegs_length (s : State) (x : RegIdx) : (s.blockRegs x).length = x.val + 1 := by
  rw [State.blockRegs, List.length_take, Vector.length_toList]
  omega

theorem blockRegs_getElem? (s : State) {k x : RegIdx} (hk : k ≤ x) : (s.blockRegs x)[k.val]? = some (s.reg k) := by
  rw [State.blockRegs, List.getElem?_take_of_lt (Nat.lt_succ_of_le hk)]
  simp [State.reg]

theorem exec_ldMemVx (h : indexAfterBlock s.quirks s.i x = some w) :
    exec (.ldMemVx x) s =
      .next (endTransfer (.ldMemVx x) (s.writeBytes (s.ea 0) (s.blockRegs x)) fun t => t.setI w) := by
  rw [exec, execLdMemVx, h]

theorem exec_ldVxMem (h : indexAfterBlock s.quirks s.i x = some w) :
    exec (.ldVxMem x) s =
      .next (endTransfer (.ldVxMem x) (s.loadRegs (s.ea 0) 0 (x.val + 1)) fun t => t.setI w) := by
  rw [exec, execLdVxMem, h]

/-- Where the quirks give no index, a block transfer is refused (R146). -/
theorem exec_block_of_none (hi : i = .ldMemVx x ∨ i = .ldVxMem x) (h : indexAfterBlock s.quirks s.i x = none) :
    exec i s = .refused .bothMemoryQuirks := by
  rcases hi with rfl | rfl
  · rw [exec, execLdMemVx, h]
  · rw [exec, execLdVxMem, h]

end

/-- Settles O40: the three digits are the bytes stored, and `max I 4096` is the first address past the end. -/
theorem bcdStoresThreeDigits : Obligations.BcdStoresThreeDigits := by
  intro x s hm digit
  obtain ⟨t, ht, hread, hfits, hfault⟩ :=
    exec_store (s := s) (i := .ldBVx x) (bs := bcdDigits (s.reg x)) (List.cons_ne_nil _ _) (fun _ _ => rfl) rfl
  refine ⟨t, ht, fun k hk h => ?_, fun a h => ?_, fun h => ?_, fun h => hfault (Nat.lt_succ_of_le h)⟩
  · rw [hread]
    exact readByte?_writeBytes_inside hm (bcdDigits_getElem? _ hk) h
  · rw [hread]
    exact readByte?_writeBytes_outside hm h
  · rw [hfits h]
    exact unchangedBut_writeBytes _ _ _

/-- Settles O41: the bytes stored are V0 to `V[x]`. -/
theorem blockStoreWritesV0ToVx : Obligations.BlockStoreWritesV0ToVx := by
  intro x s hm hq
  obtain ⟨w, hw, hwi⟩ := indexAfterBlock_of_legal hq s.i x
  have hlen := blockRegs_length s x
  obtain ⟨t, ht, hread, hfits, hfault⟩ :=
    exec_store (f := fun t => t.setI w) (List.ne_nil_of_length_eq_add_one hlen) (fun _ _ => rfl) (exec_ldMemVx hw)
  rw [hlen] at hfits hfault
  refine ⟨t, ht, fun k hk h => ?_, fun a h => ?_, fun h => ?_, fun h => hfault (Nat.lt_succ_of_le h)⟩
  · rw [hread]
    exact readByte?_writeBytes_inside hm (blockRegs_getElem? s hk) h
  · rw [hread]
    exact readByte?_writeBytes_outside hm (hlen ▸ h)
  · rw [hfits h]
    exact ⟨hwi, (unchangedBut_writeBytes _ _ _).trans (unchangedBut_setI _ _)⟩

/-- Settles O42: the registers up to `V[x]` are loaded from the bytes that exist. -/
theorem blockLoadReadsV0ToVx : Obligations.BlockLoadReadsV0ToVx := by
  intro x s hq
  obtain ⟨w, hw, hwi⟩ := indexAfterBlock_of_legal hq s.i x
  obtain ⟨t, ht, hreg, hfits, hfault⟩ := exec_load (exec_ldVxMem hw)
  refine ⟨t, ht, fun k hk h => ?_, fun k h => ?_, fun h => ?_, hfault⟩
  · rw [hreg]
    exact reg_loadRegs_inside _ hk h
  · rw [hreg]
    exact reg_loadRegs_outside _ h
  · rw [hfits h]
    exact ⟨hwi, (unchangedBut_loadRegs _ _ _ _).trans (unchangedBut_setI _ _)⟩

/-- In a legal configuration a block transfer that stays inside the memory updates `I` by the quirks. -/
theorem exec_block_index {i : Instr} {x : RegIdx} {s : State} (hi : i = .ldMemVx x ∨ i = .ldVxMem x)
    (hq : s.quirks.legal = true) (h : s.i.toNat + x.val < 4096) :
    ∃ t, exec i s = .next t ∧ t.i.toNat = blockIndex s.quirks s.i x := by
  obtain ⟨w, hw, hwi⟩ := indexAfterBlock_of_legal hq s.i x
  rcases hi with rfl | rfl
  · rw [exec_ldMemVx hw, endTransfer_writeBytes_of_le (by rw [blockRegs_length]; exact h)]
    exact ⟨_, rfl, hwi⟩
  · rw [exec_ldVxMem hw, endTransfer_loadRegs_of_lt h]
    exact ⟨_, rfl, hwi⟩

/-- Settles O43: the refused setting has no index, on the three legal ones `I` is `blockIndex`. -/
theorem blockTransfersUpdateIndexByQuirks : Obligations.BlockTransfersUpdateIndexByQuirks := by
  intro x s i hi
  refine ⟨fun hinc hleave => ?_, fun h => ⟨fun hinc hleave => ?_, fun hinc hleave => ?_, fun hinc hleave => ?_⟩⟩
  · have hnone : indexAfterBlock s.quirks s.i x = none := by rw [indexAfterBlock, hinc, hleave]
    have hq : s.quirks.legal = false := by rw [Quirks.legal, hinc, hleave]; rfl
    exact ⟨exec_block_of_none hi hnone, by rw [step, takeStep, hq]; rfl⟩
  all_goals
    obtain ⟨t, ht, hti⟩ := exec_block_index hi (by rw [Quirks.legal, hinc, hleave]; rfl) h
    rw [blockIndex, hinc, hleave] at hti
  · exact ⟨t, ht, hti⟩
  · exact ⟨t, ht, hti⟩
  · exact ⟨t, ht, BitVec.eq_of_toNat_eq hti⟩

/-- Settles O44: the load reads back the bytes of the store, whose memory and configuration the registers and `I` set
between leave as they are. -/
theorem blockStoreThenLoadRestoresRegisters : Obligations.BlockStoreThenLoadRestoresRegisters := by
  intro x s v hm hq h
  obtain ⟨t, ht, hstored, -, hfits, -⟩ := blockStoreWritesV0ToVx x s hm hq
  have hqt : t.quirks = s.quirks := ((hfits h).2 .parameters (by decide)).1
  obtain ⟨u, hu, hloaded, hkept, -⟩ := blockLoadReadsV0ToVx x { t with v := v, i := s.i } (hqt ▸ hq)
  refine ⟨t, u, ht, hu, fun k hk => ?_, fun k hk => hkept k (.inl hk)⟩
  have hb : s.i.toNat + k.val < 4096 := Nat.lt_of_le_of_lt (Nat.add_le_add_left hk _) h
  exact Option.some.inj ((hloaded k hk hb).symm.trans (hstored k hk hb))

theorem State.readWord_of_readByte? {s : State} {a : Nat} {hi lo : Byte} (hhi : s.readByte? a = some hi)
    (hlo : s.readByte? (a + 1) = some lo) : s.readWord a = .ok (wordOfBytes hi lo) := by
  rw [State.readWord, hhi, hlo]

/-- Settles O10: the two bytes stored are those the fetch reads. -/
theorem storedBytesAreFetchedNext : Obligations.StoredBytesAreFetchedNext := by
  intro s hm hq h
  obtain ⟨t, ht, hstored, -⟩ := blockStoreWritesV0ToVx 1 s hm hq
  have hhi := hstored 0 (by decide) (Nat.lt_of_succ_lt h)
  have hlo := hstored 1 (by decide) h
  exact ⟨t, _, ht, State.readWord_of_readByte? (s := t.setPc s.i) hhi hlo, wordOfBytes_toNat _ _⟩

/-- Settles O57: the program is stored at 0x200, where 3584 bytes end with the memory. -/
theorem loadRomCopiesTheProgram : Obligations.LoadRomCopiesTheProgram := by
  intro s bytes hm
  by_cases h : bytes.length ≤ 3584
  · have hload : s.loadRom bytes = (s.writeBytes 0x200 bytes).1 := if_pos h
    refine ⟨_, rfl, ?_, fun _ => ⟨fun k b hb => ?_, fun a ha => ?_⟩, fun h' => absurd h (Nat.not_le.mpr h')⟩
    · exact hload ▸ unchangedBut_writeBytes s _ _
    · have hk : k < bytes.length := (List.getElem?_eq_some_iff.mp hb).1
      rw [hload, readByte?_writeBytes_inside hm hb (by omega)]
    · rw [hload, readByte?_writeBytes_outside hm ha]
  · have hload : s.loadRom bytes = s := if_neg h
    exact ⟨_, rfl, hload.symm ▸ unchangedBut_memory s s.mem, fun h' => absurd h' h, fun _ _ => by rw [hload]⟩

end Sys2Proof.Machine
end

section
/-! SUPPORT. 44_display R161 to R167: the pixels a sprite covers, what a draw does on each side of the end of the memory, and
the proofs of the statements about DRW, the scrolls and the change of resolution. -/

namespace Sys2Proof.Machine

/-! DRW (R161) -/

theorem Blit.target_eq_some_iff (b : Blit) (px py : Nat) {x y : Nat} (hx : x < b.w) (hy : y < b.h) :
    b.target px py = some (x, y) ↔ if b.wrap then px % b.w = x ∧ py % b.h = y else px = x ∧ py = y := by
  unfold Blit.target
  by_cases hw : b.wrap = true
  · simp only [hw, if_true, Option.some.injEq, Prod.mk.injEq]
  · simp only [hw, if_false, Bool.false_eq_true]
    split
    · simp only [reduceCtorEq, false_iff]
      omega
    · simp only [Option.some.injEq, Prod.mk.injEq]

theorem Blit.target_lt (b : Blit) {px py x y : Nat} (hw : 0 < b.w) (hh : 0 < b.h) (h : b.target px py = some (x, y)) :
    x < b.w ∧ y < b.h := by
  unfold Blit.target at h
  split_ifs at h
  · simp only [Option.some.injEq, Prod.mk.injEq] at h
    exact ⟨h.1 ▸ Nat.mod_lt _ hw, h.2 ▸ Nat.mod_lt _ hh⟩
  · simp only [Option.some.injEq, Prod.mk.injEq] at h
    omega

/-- The rows of a draw: the pixels, the collision, and the address that failed if there is one. -/
def State.drawSprite (s : State) (x y : RegIdx) (n : Nat) : (Grid × Bool) × Option Nat :=
  s.drawRows (s.blit x) ((s.reg y).toNat % s.height) 0 n (s.pix, false)

section
variable (s : State) (x y : RegIdx) (n : Nat)

/-- The sprite's rows fall on the pixels of the display that `SpriteCovers` names. -/
theorem State.rowsCover_iff {px py : Nat} (hpx : px < s.width) (hpy : py < s.height) :
    s.rowsCover (s.blit x) ((s.reg y).toNat % s.height) 0 n px py ↔ SpriteCovers s x y n px py := by
  have htarget := fun c r => (s.blit x).target_eq_some_iff ((s.reg x).toNat % s.width + c)
    ((s.reg y).toNat % s.height + r) (x := px) (y := py) hpx hpy
  constructor
  · rintro ⟨r, row, -, hr, hrow, c, -, hc, hbit, ht⟩
    exact ⟨r, c, row, by omega, by omega, hrow, hbit, (htarget c r).mp ht⟩
  · rintro ⟨r, c, row, hr, hc, hrow, hbit, ht⟩
    exact ⟨r, row, Nat.zero_le r, by omega, hrow, c, Nat.zero_le c, by omega, hbit, (htarget c r).mpr ht⟩

/-- The sprite's rows fall on pixels of the display only. -/
theorem State.rowsCover_lt {px py : Nat}
    (h : s.rowsCover (s.blit x) ((s.reg y).toNat % s.height) 0 n px py) : px < s.width ∧ py < s.height := by
  obtain ⟨r, row, -, -, -, c, -, -, -, ht⟩ := h
  exact (s.blit x).target_lt s.width_pos s.height_pos ht

theorem State.eight_le_width : 8 ≤ s.width := by
  unfold State.width
  split <;> omega

theorem State.fifteen_le_height : 15 ≤ s.height := by
  unfold State.height
  split <;> omega

end

section
variable (s : State) (x y : RegIdx) (n : Fin 16)

theorem State.drawSprite_spec :
    (∀ px py, (s.drawSprite x y n.val).1.1.get px py = true ↔
      ¬ (s.pixel px py = true ↔ s.rowsCover (s.blit x) ((s.reg y).toNat % s.height) 0 n.val px py)) ∧
    ((s.drawSprite x y n.val).1.2 = true ↔ false = true ∨
      ∃ px py, s.rowsCover (s.blit x) ((s.reg y).toNat % s.height) 0 n.val px py ∧ s.pixel px py = true) :=
  s.drawRows_spec (s.blit x) _ 0 n.val (s.pix, false) s.width_le s.height_le s.eight_le_width s.fifteen_le_height (by omega)

theorem State.drawSprite_inside {px py : Nat} (hpx : px < s.width) (hpy : py < s.height) :
    (s.drawSprite x y n.val).1.1.get px py = true ↔ ¬ (s.pixel px py = true ↔ SpriteCovers s x y n.val px py) := by
  rw [(s.drawSprite_spec x y n).1, s.rowsCover_iff x y n.val hpx hpy]

theorem State.drawSprite_outside {px py : Nat} (h : ¬ (px < s.width ∧ py < s.height)) :
    (s.drawSprite x y n.val).1.1.get px py = s.pixel px py := by
  have hno : ¬ s.rowsCover (s.blit x) ((s.reg y).toNat % s.height) 0 n.val px py :=
    fun hc => h (s.rowsCover_lt x y n.val hc)
  rw [Bool.eq_iff_iff, (s.drawSprite_spec x y n).1, iff_false_right hno, not_not]

theorem State.drawSprite_collides : (s.drawSprite x y n.val).1.2 = true ↔
    ∃ px py, px < s.width ∧ py < s.height ∧ s.pixel px py = true ∧ SpriteCovers s x y n.val px py := by
  rw [(s.drawSprite_spec x y n).2]
  constructor
  · rintro (h | ⟨px, py, hc, hp⟩)
    · exact absurd h Bool.false_ne_true
    · obtain ⟨hpx, hpy⟩ := s.rowsCover_lt x y n.val hc
      exact ⟨px, py, hpx, hpy, hp, (s.rowsCover_iff x y n.val hpx hpy).mp hc⟩
  · rintro ⟨px, py, hpx, hpy, hp, hc⟩
    exact .inr ⟨px, py, (s.rowsCover_iff x y n.val hpx hpy).mpr hc, hp⟩

theorem State.drawSprite_fails : (s.drawSprite x y n.val).2 =
    if n.val = 0 ∨ s.i.toNat + n.val ≤ 4096 then none else some (max s.i.toNat 4096) :=
  s.drawRows_fails (s.blit x) _ 0 n.val _

variable {s x y n}

theorem exec_drw_of_fits (h : n.val = 0 ∨ s.i.toNat + n.val ≤ 4096) :
    exec (.drw x y n) s = .next (s.drawDone (s.drawSprite x y n.val).1) := by
  have hnone := s.drawSprite_fails x y n
  rw [if_pos h, State.drawSprite] at hnone
  simp only [exec, execDrw, hnone]
  rfl

theorem exec_drw_of_not_fits (h : ¬ (n.val = 0 ∨ s.i.toNat + n.val ≤ 4096)) :
    exec (.drw x y n) s =
      .next (s.drawAborted (.drw x y n) (s.drawSprite x y n.val).1 (max s.i.toNat 4096)) := by
  have hsome := s.drawSprite_fails x y n
  rw [if_neg h, State.drawSprite] at hsome
  simp only [exec, execDrw, hsome]
  rfl

end

/-- The frame of a draw, completed or aborted, before the abort itself. -/
theorem unchangedBut_pixels_regs_dirty (s : State) (g : Grid) (v : Vector Byte 16) (d : Bool) :
    UnchangedBut [.pixels, .regs, .dirty] s { s with pix := g, v := v, dirty := d } := by
  intro p hp
  cases p
  case pixels | regs | dirty => simp at hp
  all_goals simp [Part.same, State.readByte?]

theorem State.reg_drawDone (s : State) (acc : Grid × Bool) (j : RegIdx) :
    (s.drawDone acc).reg j = if j = vf then flagByte acc.2 else s.reg j :=
  State.reg_setReg _ vf j _

theorem unchangedBut_drawDone (s : State) (acc : Grid × Bool) :
    UnchangedBut [.pixels, .regs, .dirty] s (s.drawDone acc) :=
  unchangedBut_pixels_regs_dirty s acc.1 _ true

theorem State.reg_drawAborted (s : State) (i : Instr) (acc : Grid × Bool) (a : Nat) (j : RegIdx) :
    (s.drawAborted i acc a).reg j = if j = vf then Config.abortedFlag s.draws else s.reg j :=
  State.reg_setReg _ vf j _

theorem unchangedBut_drawAborted (s : State) (i : Instr) (acc : Grid × Bool) (a : Nat) :
    UnchangedBut [.pixels, .regs, .dirty, .draws, .status] s (s.drawAborted i acc a) :=
  ((unchangedBut_pixels_regs_dirty s acc.1 _ _).trans (unchangedBut_draws _ _)).trans (unchangedBut_raise _ _ _ _)

/-- Settles O46: inside the memory and past its end the rows drawn are `drawSprite`'s; what follows the rows differs. -/
theorem drwTogglesThePixelsTheSpriteCovers : Obligations.DrwTogglesThePixelsTheSpriteCovers := by
  intro x y n s
  have hin := fun px py => s.drawSprite_inside x y n (px := px) (py := py)
  have hout := fun px py => s.drawSprite_outside x y n (px := px) (py := py)
  by_cases h : n.val = 0 ∨ s.i.toNat + n.val ≤ 4096
  · have hvf := (s.reg_drawDone (s.drawSprite x y n.val).1 15).trans (if_pos rfl)
    refine ⟨_, exec_drw_of_fits h, hin, hout, fun j hj => (s.reg_drawDone _ j).trans (if_neg hj),
      fun _ => ⟨?_, ?_, rfl, ?_⟩, absurd h⟩
    · intro hc
      rw [hvf, (s.drawSprite_collides x y n).mpr hc]
      rfl
    · intro hc
      rw [hvf, Bool.eq_false_iff.mpr fun hb => hc ((s.drawSprite_collides x y n).mp hb)]
      rfl
    · exact unchangedBut_drawDone s _
  · refine ⟨_, exec_drw_of_not_fits h, hin, hout, fun j hj => (s.reg_drawAborted _ _ _ j).trans (if_neg hj),
      fun h' => absurd h' h, fun _ => ⟨rfl, rfl, ?_⟩⟩
    exact (unchangedBut_drawAborted s _ _ _).mono (by decide)

/-- What a sprite covers depends on the two coordinates, `I`, the memory, the wrap quirk and the resolution. -/
theorem spriteCovers_iff_of_frame {s t : State} {x y : RegIdx} {n px py : Nat}
    (h : UnchangedBut [.pixels, .regs, .dirty] s t) (hx : t.reg x = s.reg x) (hy : t.reg y = s.reg y) :
    SpriteCovers t x y n px py ↔ SpriteCovers s x y n px py := by
  have hi : t.i = s.i := h .index (by decide)
  have hmem : ∀ a, t.readByte? a = s.readByte? a := h .memory (by decide)
  have hext : t.extMode = s.extMode := h .resolution (by decide)
  have hq : t.quirks = s.quirks := (h .parameters (by decide)).1
  simp only [SpriteCovers, State.width, State.height, hi, hmem, hext, hq, hx, hy]

theorem toggle_twice {a b c d : Prop} (hb : b ↔ ¬ (a ↔ c)) (hd : d ↔ ¬ (b ↔ c)) : d ↔ a := by tauto

theorem covered_of_lit {a b c : Prop} (ha : ¬ a) (hb : b ↔ ¬ (a ↔ c)) (h : b) : c := by tauto

/-- Settles O47: the second draw covers the same pixels, so it toggles each of them back, and where the first one lit a
pixel it collides. -/
theorem drawingTwiceRestoresTheDisplay : Obligations.DrawingTwiceRestoresTheDisplay := by
  intro x y n s hx hy h
  obtain ⟨t, ht, htin, htout, htreg, htfits, -⟩ := drwTogglesThePixelsTheSpriteCovers x y n s
  obtain ⟨-, htmiss, -, hframe⟩ := htfits h
  have hi : t.i = s.i := hframe .index (by decide)
  have hw : t.width = s.width := by rw [State.width, State.width, hframe .resolution (by decide)]
  have hh : t.height = s.height := by rw [State.height, State.height, hframe .resolution (by decide)]
  have hcov : ∀ px py, SpriteCovers t x y n.val px py ↔ SpriteCovers s x y n.val px py := fun _ _ =>
    spriteCovers_iff_of_frame hframe (htreg x hx) (htreg y hy)
  obtain ⟨u, hu, huin, huout, -, hufits, -⟩ := drwTogglesThePixelsTheSpriteCovers x y n t
  obtain ⟨huhit, -⟩ := hufits (hi ▸ h)
  simp only [hw, hh, hcov] at huin huout huhit
  refine ⟨t, u, ht, hu, fun px py => ?_, fun hclear => ⟨htmiss ?_, fun px py hpx hpy hp => huhit ?_⟩⟩
  · by_cases hd : px < s.width ∧ py < s.height
    · exact Bool.eq_iff_iff.mpr (toggle_twice (htin px py hd.1 hd.2) (huin px py hd.1 hd.2))
    · exact (huout px py hd).trans (htout px py hd)
  · rintro ⟨px, py, -, -, hp, -⟩
    exact Bool.false_ne_true ((hclear px py).symm.trans hp)
  · exact ⟨px, py, hpx, hpy, hp, covered_of_lit (Bool.eq_false_iff.mp (hclear px py)) (htin px py hpx hpy) hp⟩

/-! The instructions that need the display's capability (R162 to R167) -/

section
variable {s : State}

theorem State.withDisplay_of_true (h : s.displaySchip = true) (i : Instr) (f : State → State) :
    s.withDisplay i f = f s := if_pos h

theorem State.withDisplay_of_false (h : s.displaySchip = false) (i : Instr) (f : State → State) :
    s.withDisplay i f = abortedWith s .unsupported .halt (encode i) :=
  (if_neg (Bool.eq_false_iff.mp h)).trans (State.raise_eq_abortedWith rfl i 0)

/-- An instruction that sets every pixel of the display to `f x y`. -/
theorem exec_setPixels {i : Instr} {f g : Nat → Nat → Bool} (h : exec i s = .next (s.setPixels f).setDirty)
    (hg : ∀ px py, f px py = g px py) :
    ∃ t, exec i s = .next t ∧ t.dirty = true ∧ UnchangedBut [.pixels, .dirty] s t ∧
      ∀ px py, px < s.width → py < s.height → t.pixel px py = g px py := by
  refine ⟨_, h, rfl, unchangedBut_pixels_dirty s _ true, fun px py hpx hpy => ?_⟩
  have hpix := s.pixel_setPixels f px py
  rw [decide_eq_true hpx, decide_eq_true hpy, Bool.true_and, Bool.true_and, hg px py] at hpix
  exact hpix

theorem unchangedBut_setResolution_setDirty (s : State) (ext : Bool) :
    UnchangedBut [.pixels, .dirty, .resolution, .draws] s (s.setResolution ext).setDirty := by
  intro p hp
  cases p
  case pixels | dirty | resolution | draws => simp at hp
  all_goals simp [Part.same, State.reg, State.readByte?, State.setResolution]

theorem exec_setResolution {i : Instr} {ext : Bool} (h : exec i s = .next (s.setResolution ext).setDirty) :
    ∃ t, exec i s = .next t ∧ t.extMode = ext ∧ t.width = (if ext then 128 else 64) ∧
      t.height = (if ext then 64 else 32) ∧ t.dirty = true ∧
      UnchangedBut [.pixels, .dirty, .resolution, .draws] s t :=
  ⟨_, h, rfl, rfl, rfl, rfl, unchangedBut_setResolution_setDirty s ext⟩

end

theorem decide_and_eq_ite (p : Prop) [Decidable p] (b : Bool) : (decide p && b) = if p then b else false := by
  by_cases h : p <;> simp [h]

/-- Settles O48: each of the three sets the display's pixels to those its source names. -/
theorem scrollsMoveEveryPixel : Obligations.ScrollsMoveEveryPixel := by
  intro n s
  refine ⟨fun h => ?_, fun h k m hk hm => ?_⟩
  · simp only [exec, execScr, execScl, execDsv, State.withDisplay_of_false h, and_self]
  · subst hk hm
    have hscr : exec .scr s = .next (s.scrollRight s.scrollAmount).setDirty := by
      rw [exec, execScr, State.withDisplay_of_true h]
    have hscl : exec .scl s = .next (s.scrollLeft s.scrollAmount).setDirty := by
      rw [exec, execScl, State.withDisplay_of_true h]
    have hdsv : exec (.dsv n) s = .next (s.scrollDown (s.scrollLines n)).setDirty := by
      rw [exec, execDsv, State.withDisplay_of_true h]
    exact ⟨exec_setPixels hscr fun _ _ => decide_and_eq_ite _ _, exec_setPixels hscl fun _ _ => decide_and_eq_ite _ _,
      exec_setPixels hdsv fun _ _ => decide_and_eq_ite _ _⟩

/-- Settles O49: with the capability both set the resolution, without it both halt. -/
theorem resolutionSwitchSetsTheSize : Obligations.ResolutionSwitchSetsTheSize := by
  intro s
  refine ⟨fun h => ?_, fun h => ?_⟩
  · simp only [exec, execHrs, execLrs, State.withDisplay_of_false h, and_self]
  · exact ⟨exec_setResolution (by rw [exec, execHrs, State.withDisplay_of_true h]),
      exec_setResolution (by rw [exec, execLrs, State.withDisplay_of_true h])⟩

end Sys2Proof.Machine
end

section
/-! SUPPORT. 60_exceptions R232 to R234: everything an instruction can do to the state, said once (`Effect`), and what
follows from it: the proofs of the statements about how instructions fail and about how a run ends. -/

namespace Sys2Proof.Machine

/-- The grid lights no pixel outside the display that the state's own grid leaves dark. -/
def State.DarkOutside (s : State) (g : Grid) : Prop :=
  ∀ x y, ¬ (x < s.width ∧ y < s.height) → s.pixel x y = false → g.get x y = false

/-- What the execution of an instruction can leave. -/
inductive Effect (i : Instr) (s : State) : State → Prop
  /-- Registers, `I`, `DT` and draws of free values. -/
  | free (v : Vector Byte 16) (w : Word) (dt : Byte) (n : Nat) : Effect i s { s with v := v, i := w, dt := dt, draws := n }
  /-- The sound timer, with the beeper. -/
  | sound (b : Byte) : Effect i s (s.setSoundTimer b)
  /-- A skip, a repetition or a jump in the range of R13. -/
  | jump (w : Word) (n : Nat) (hw : w = s.pc ∨ w = s.pc + 2#16 ∨ w = s.ia ∨ w.toNat ≤ 0x10FE) :
      Effect i s { s with pc := w, draws := n }
  | call (k : Fin 16) (w : Word) (hw : w.toNat < 4096) :
      Effect i s { s with stack := s.stack.set k.val s.pc, sp := k.succ, pc := w }
  | ret (k : Fin 16) : Effect i s { s with sp := k.castSucc, pc := s.stack[k] }
  /-- Bytes of memory and `I`. -/
  | store (m : Memory) (w : Word) (hm : Memory.wf s.font s.mem = true → Memory.wf s.font m = true) :
      Effect i s { s with mem := m, i := w }
  /-- The pixels, with `DIRTY`, and VF. -/
  | display (g : Grid) (v : Vector Byte 16) (hg : s.DarkOutside g) : Effect i s { s with pix := g, v := v, dirty := true }
  | resolution (ext : Bool) (h : s.displaySchip = true) : Effect i s (s.setResolution ext).setDirty
  /-- An abort that changes `ERR` and `RUN` only. -/
  | abort (c : Cause) (hc : c ∈ failureCauses i) (hne : c ≠ .memFault) : Effect i s (s.raise c i 0)
  /-- A memory fault: what was done before it is kept. -/
  | fault (m : Memory) (v : Vector Byte 16) (g : Grid) (d : Bool) (n : Nat) (hc : .memFault ∈ failureCauses i)
      (hm : Memory.wf s.font s.mem = true → Memory.wf s.font m = true) (hg : s.DarkOutside g)
      (hi : 4096 ≤ s.i.toNat + 15) :
      Effect i s (({ s with mem := m, v := v, pix := g, dirty := d, draws := n }).raise .memFault i (max s.i.toNat 4096))

/-- The instruction answers a next state, by one of the effects. -/
def HasEffect (i : Instr) (s : State) : Prop := ∃ t, exec i s = .next t ∧ Effect i s t

section
variable {i : Instr} {s : State} {x : RegIdx}

theorem hasEffect_setRegLogic {r : Byte} (h : exec i s = .next (s.setRegLogic x r)) : HasEffect i s := by
  rw [State.setRegLogic_frame] at h
  exact ⟨_, h, .free _ _ _ _⟩

theorem hasEffect_skipIf {c : Bool} {n : Nat} (h : exec i s = .next (({ s with draws := n }).skipIf c)) :
    HasEffect i s := by
  rw [State.skipIf_eq] at h
  refine ⟨_, h, .jump _ _ ?_⟩
  cases c
  · exact .inl rfl
  · exact .inr (.inl rfl)

theorem State.afterKeyDown_frame (s : State) (k : Byte) :
    s.afterKeyDown k = { s with draws := (s.afterKeyDown k).draws } := by
  unfold State.afterKeyDown
  split <;> rfl

theorem State.afterAnyKey_frame (s : State) : s.afterAnyKey = { s with draws := s.afterAnyKey.draws } := by
  unfold State.afterAnyKey
  split <;> rfl

theorem State.darkOutside_pix (s : State) : s.DarkOutside s.pix := fun _ _ _ h => h

theorem State.pixel_setPixels_outside (s : State) (f : Nat → Nat → Bool) {x y : Nat}
    (h : ¬ (x < s.width ∧ y < s.height)) : (s.setPixels f).pixel x y = false := by
  rw [State.pixel_setPixels, ← Bool.decide_and, decide_eq_false h, Bool.false_and]

theorem State.darkOutside_setPixels (s : State) (f : Nat → Nat → Bool) : s.DarkOutside (s.setPixels f).pix :=
  fun _ _ hout _ => s.pixel_setPixels_outside f hout

theorem State.darkOutside_drawSprite (s : State) (x y : RegIdx) (n : Fin 16) :
    s.DarkOutside (s.drawSprite x y n.val).1.1 :=
  fun _ _ hout h => (s.drawSprite_outside x y n hout).trans h

theorem hasEffect_abortedWith {c : Cause} (hc : c ∈ failureCauses i) (ha : c.hasAddress = false)
    (h : exec i s = .next (abortedWith s c c.cls (encode i))) : HasEffect i s := by
  rw [← State.raise_eq_abortedWith ha i 0] at h
  exact ⟨_, h, .abort c hc (by rintro rfl; exact Bool.false_ne_true ha.symm)⟩

theorem hasEffect_ret (s : State) : HasEffect .ret s := by
  rcases Fin.eq_zero_or_eq_succ s.sp with h | ⟨k, h⟩
  · exact hasEffect_abortedWith (by decide) rfl (exec_ret_of_empty (congrArg Fin.val h))
  · exact ⟨_, exec_ret_of_pos k (congrArg Fin.val h), .ret k⟩

theorem hasEffect_callAddr (nnn : BitVec 12) (s : State) : HasEffect (.callAddr nnn) s := by
  rcases Fin.eq_castSucc_or_eq_last s.sp with ⟨k, h⟩ | h
  · exact ⟨_, exec_callAddr_of_free nnn k (congrArg Fin.val h), .call k _ (zextAddr_toNat nnn ▸ nnn.isLt)⟩
  · exact hasEffect_abortedWith (List.mem_singleton_self _) rfl (exec_callAddr_of_full nnn (congrArg Fin.val h))

theorem hasEffect_jpAddr (nnn : BitVec 12) (s : State) : HasEffect (.jpAddr nnn) s := by
  by_cases h : s.catchesJump nnn
  · exact hasEffect_abortedWith (List.mem_singleton_self _) rfl (exec_jpAddr_of_caught h)
  · refine ⟨_, exec_jpAddr_of_not_caught h, .jump _ s.draws (.inr (.inr (.inr ?_)))⟩
    rw [zextAddr_toNat]
    omega

theorem jpV0_target_toNat (nnn : BitVec 12) (b : Byte) :
    (zextAddr nnn + zextByte b).toNat = nnn.toNat + b.toNat := by
  have hb : (zextByte b).toNat = b.toNat := BitVec.toNat_setWidth_of_le (by decide)
  rw [BitVec.toNat_add, zextAddr_toNat, hb]
  omega

theorem exec_ldVxK_of_none (x : RegIdx) (h : s.anyKey = none) : exec (.ldVxK x) s = .next (s.setPc s.ia) := by
  rw [exec, execLdVxK, h]

theorem exec_ldVxK_of_some (x : RegIdx) {k : Fin 16} (h : s.anyKey = some k) :
    exec (.ldVxK x) s = .next (s.afterAnyKey.setReg x (BitVec.ofNat 8 k.val)) := by
  rw [exec, execLdVxK, h]

theorem hasEffect_ldVxK (x : RegIdx) (s : State) : HasEffect (.ldVxK x) s := by
  rcases h : s.anyKey with _ | k
  · exact ⟨_, exec_ldVxK_of_none x h, .jump _ s.draws (.inr (.inr (.inl rfl)))⟩
  · refine ⟨_, exec_ldVxK_of_some x h, ?_⟩
    rw [State.afterAnyKey_frame]
    exact .free _ _ _ _

theorem hasEffect_withDisplay {f : State → State} (h : exec i s = .next (s.withDisplay i f))
    (hc : .unsupported ∈ failureCauses i) (hf : s.displaySchip = true → Effect i s (f s)) : HasEffect i s := by
  cases hs : s.displaySchip
  · rw [State.withDisplay_of_false hs] at h
    exact hasEffect_abortedWith hc rfl h
  · rw [State.withDisplay_of_true hs] at h
    exact ⟨_, h, hf hs⟩

theorem effect_setPixels (f : Nat → Nat → Bool) : Effect i s (s.setPixels f).setDirty :=
  .display _ s.v (s.darkOutside_setPixels f)

theorem hasEffect_drw (x y : RegIdx) (n : Fin 16) (s : State) : HasEffect (.drw x y n) s := by
  by_cases h : n.val = 0 ∨ s.i.toNat + n.val ≤ 4096
  · exact ⟨_, exec_drw_of_fits h, .display _ _ (s.darkOutside_drawSprite x y n)⟩
  · exact ⟨_, exec_drw_of_not_fits h,
      .fault s.mem _ _ _ _ (List.mem_singleton_self _) id (s.darkOutside_drawSprite x y n) (by omega)⟩

/-- A store of at most 16 bytes, then at most a write of `I`. -/
theorem hasEffect_store {bs : List Byte} {f : State → State} (hbs : bs ≠ []) (hlen : bs.length ≤ 16)
    (hf : ∀ m, ∃ w, f { s with mem := m } = { s with mem := m, i := w }) (hc : .memFault ∈ failureCauses i)
    (h : exec i s = .next (endTransfer i (s.writeBytes (s.ea 0) bs) f)) : HasEffect i s := by
  by_cases hfits : s.i.toNat + bs.length ≤ 4096
  · obtain ⟨w, hw⟩ := hf (s.writeBytes (s.ea 0) bs).1.mem
    rw [endTransfer_writeBytes_of_le hfits, State.writeBytes_frame, hw] at h
    exact ⟨_, h, .store _ w (s.writeBytes_wf _ _)⟩
  · rw [endTransfer_writeBytes_of_lt hbs (Nat.not_le.mp hfits), State.writeBytes_frame] at h
    exact ⟨_, h, .fault _ _ _ _ _ hc (s.writeBytes_wf _ _) s.darkOutside_pix (by omega)⟩

theorem hasEffect_load {w : Word} (hc : .memFault ∈ failureCauses i)
    (h : exec i s = .next (endTransfer i (s.loadRegs (s.ea 0) 0 (x.val + 1)) fun t => t.setI w)) : HasEffect i s := by
  by_cases hfits : s.i.toNat + x.val < 4096
  · rw [endTransfer_loadRegs_of_lt hfits, State.loadRegs_frame] at h
    exact ⟨_, h, .free _ _ _ _⟩
  · rw [endTransfer_loadRegs_of_le (Nat.not_lt.mp hfits), State.loadRegs_frame] at h
    exact ⟨_, h, .fault _ _ _ _ _ hc id s.darkOutside_pix (by omega)⟩

theorem hasEffect_ldBVx (x : RegIdx) (s : State) : HasEffect (.ldBVx x) s :=
  hasEffect_store (bs := bcdDigits (s.reg x)) (List.cons_ne_nil _ _) (show 3 ≤ 16 by decide) (fun _ => ⟨s.i, rfl⟩)
    (List.mem_singleton_self _) rfl

/-- A block transfer has an effect, or the configuration is the refused one. -/
theorem hasEffect_or_refused_of_block (hi : i = .ldMemVx x ∨ i = .ldVxMem x) :
    HasEffect i s ∨ exec i s = .refused .bothMemoryQuirks := by
  rcases hw : indexAfterBlock s.quirks s.i x with _ | w
  · exact .inr (exec_block_of_none hi hw)
  · refine .inl ?_
    rcases hi with rfl | rfl
    · have hlen := blockRegs_length s x
      exact hasEffect_store (List.ne_nil_of_length_eq_add_one hlen) (by omega) (fun _ => ⟨w, rfl⟩)
        (List.mem_singleton_self _) (exec_ldMemVx hw)
    · exact hasEffect_load (List.mem_singleton_self _) (exec_ldVxMem hw)

end

/-- Every instruction has an effect in every state, but for the block transfers in the refused configuration. -/
theorem hasEffect_or_refused (i : Instr) (s : State) :
    HasEffect i s ∨ (exec i s = .refused .bothMemoryQuirks ∧ .memFault ∈ failureCauses i) := by
  cases i
  case ldMemVx x => exact (hasEffect_or_refused_of_block (.inl rfl)).imp_right fun h => ⟨h, List.mem_singleton_self _⟩
  case ldVxMem x => exact (hasEffect_or_refused_of_block (.inr rfl)).imp_right fun h => ⟨h, List.mem_singleton_self _⟩
  all_goals refine .inl ?_
  case ldImm | addImm | ldReg | addReg | subReg | shrReg | subnReg | shlReg | rnd | ldVxDT | ldDTVx | ldIAddr | addIVx |
      ldFVx =>
    exact ⟨_, rfl, .free _ _ _ _⟩
  case orReg | andReg | xorReg => exact hasEffect_setRegLogic rfl
  case seImm | sneImm | seReg | sneReg => exact hasEffect_skipIf (n := s.draws) rfl
  case skp x | sknp x => exact hasEffect_skipIf (by rw [← State.afterKeyDown_frame]; rfl)
  case jpAddr nnn => exact hasEffect_jpAddr nnn s
  case callAddr nnn => exact hasEffect_callAddr nnn s
  case ret => exact hasEffect_ret s
  case jpV0 nnn =>
    refine ⟨_, rfl, .jump _ s.draws (.inr (.inr (.inr ?_)))⟩
    rw [jpV0_target_toNat]
    omega
  case ldVxK x => exact hasEffect_ldVxK x s
  case ldSTVx => exact ⟨_, rfl, .sound _⟩
  case cls => exact ⟨_, rfl, .display _ s.v fun x y _ _ => Grid.get_blank x y⟩
  case drw x y n => exact hasEffect_drw x y n s
  case scr | scl | dsv => exact hasEffect_withDisplay rfl (List.mem_singleton_self _) fun _ => effect_setPixels _
  case hrs | lrs => exact hasEffect_withDisplay rfl (List.mem_singleton_self _) (.resolution _)
  case ldBVx x => exact hasEffect_ldBVx x s
  case ext => exact ⟨_, rfl, .abort .exit (List.mem_singleton_self _) (by decide)⟩
  case illegal op => exact ⟨_, rfl, .abort .illegal (List.mem_singleton_self _) (by decide)⟩

theorem exec_effect {i : Instr} {s t : State} (h : exec i s = .next t) : Effect i s t := by
  rcases hasEffect_or_refused i s with ⟨u, hu, heff⟩ | ⟨hr, -⟩
  · rw [hu] at h
    exact Host.Outcome.next.inj h ▸ heff
  · rw [hr] at h
    exact nomatch h

/-! What the causes listed for an instruction are -/

section
variable {c : Cause} {i : Instr}

/-- 60 R232, by cause: the four causes that name their instruction, and the three that do not. -/
theorem failureCauses_cases (h : c ∈ failureCauses i) :
    (c = .stackUnderflow ∧ i = .ret) ∨ (c = .stackOverflow ∧ ∃ a, i = .callAddr a) ∨
      (c = .endlessJump ∧ ∃ a, i = .jpAddr a) ∨ (c = .exit ∧ i = .ext) ∨
      ((c = .memFault ∨ c = .unsupported ∨ c = .illegal) ∧ i ≠ .ret ∧ ∀ a, i ≠ .callAddr a) := by
  cases i
  case ret => exact .inl ⟨List.mem_singleton.mp h, rfl⟩
  case callAddr a => exact .inr (.inl ⟨List.mem_singleton.mp h, a, rfl⟩)
  case jpAddr a => exact .inr (.inr (.inl ⟨List.mem_singleton.mp h, a, rfl⟩))
  case ext => exact .inr (.inr (.inr (.inl ⟨List.mem_singleton.mp h, rfl⟩)))
  case drw | ldBVx | ldMemVx | ldVxMem =>
    exact .inr (.inr (.inr (.inr ⟨.inl (List.mem_singleton.mp h), nofun, nofun⟩)))
  case scr | scl | dsv | hrs | lrs =>
    exact .inr (.inr (.inr (.inr ⟨.inr (.inl (List.mem_singleton.mp h)), nofun, nofun⟩)))
  case illegal => exact .inr (.inr (.inr (.inr ⟨.inr (.inr (List.mem_singleton.mp h)), nofun, nofun⟩)))
  all_goals exact absurd h List.not_mem_nil

theorem ne_none_of_mem_failureCauses (h : c ∈ failureCauses i) : c ≠ .none := by
  obtain ⟨rfl, -⟩ | ⟨rfl, -⟩ | ⟨rfl, -⟩ | ⟨rfl, -⟩ | ⟨rfl | rfl | rfl, -⟩ := failureCauses_cases h <;> decide

theorem hasAddress_of_mem_failureCauses (h : c ∈ failureCauses i) (hne : c ≠ .memFault) : c.hasAddress = false := by
  obtain ⟨rfl, -⟩ | ⟨rfl, -⟩ | ⟨rfl, -⟩ | ⟨rfl, -⟩ | ⟨rfl | rfl | rfl, -⟩ := failureCauses_cases h
  case inr.inr.inr.inr.inl => exact absurd rfl hne
  all_goals rfl

theorem cls_of_mem_failureCauses (h : c ∈ failureCauses i) : c.cls = .fatal ∨ c.cls = .halt := by
  obtain ⟨rfl, -⟩ | ⟨rfl, -⟩ | ⟨rfl, -⟩ | ⟨rfl, -⟩ | ⟨rfl | rfl | rfl, -⟩ := failureCauses_cases h <;> decide

theorem fatal_iff_of_mem_failureCauses (h : c ∈ failureCauses i) :
    c.cls = .fatal ↔ i = .ret ∨ ∃ a, i = .callAddr a := by
  obtain ⟨rfl, rfl⟩ | ⟨rfl, a, rfl⟩ | ⟨rfl, a, rfl⟩ | ⟨rfl, rfl⟩ | ⟨hc, hret, hcall⟩ := failureCauses_cases h
  case inl => exact iff_of_true rfl (.inl rfl)
  case inr.inl => exact iff_of_true rfl (.inr ⟨a, rfl⟩)
  case inr.inr.inl | inr.inr.inr.inl => exact iff_of_false (by decide) (by rintro (h | ⟨a, h⟩) <;> exact nomatch h)
  case inr.inr.inr.inr =>
    refine iff_of_false ?_ (by rintro (h | ⟨a, h⟩); exacts [hret h, hcall a h])
    rcases hc with rfl | rfl | rfl <;> decide

theorem exit_mem_failureCauses (h : .exit ∈ failureCauses i) : i = .ext := by
  obtain ⟨hc, -⟩ | ⟨hc, -⟩ | ⟨hc, -⟩ | ⟨-, hi⟩ | ⟨hc | hc | hc, -⟩ := failureCauses_cases h
  case inr.inr.inr.inl => exact hi
  all_goals exact nomatch hc

theorem endlessJump_mem_failureCauses (h : .endlessJump ∈ failureCauses i) : ∃ nnn, i = .jpAddr nnn := by
  obtain ⟨hc, -⟩ | ⟨hc, -⟩ | ⟨-, hi⟩ | ⟨hc, -⟩ | ⟨hc | hc | hc, -⟩ := failureCauses_cases h
  case inr.inr.inl => exact hi
  all_goals exact nomatch hc

end

section
variable {i : Instr} {s t : State}

/-- An instruction leaves `RUN` and `ERR`, or halts by a cause listed for it. -/
theorem Effect.status (h : Effect i s t) :
    (t.run = s.run ∧ t.err = s.err) ∨ (t.run = .halted ∧ t.err.cause ∈ failureCauses i) := by
  cases h
  case abort c hc _ => exact .inr ⟨rfl, hc⟩
  case fault hc _ _ _ => exact .inr ⟨rfl, hc⟩
  all_goals exact .inl ⟨rfl, rfl⟩

theorem Effect.parameters (h : Effect i s t) :
    t.quirks = s.quirks ∧ t.font = s.font ∧ t.displaySchip = s.displaySchip := by
  cases h <;> exact ⟨rfl, rfl, rfl⟩

/-- Settles O19: the effect of an instruction with no cause listed is none of the two aborts. -/
theorem instructionsFailOnlyAsListed : Obligations.InstructionsFailOnlyAsListed := by
  intro i s
  refine ⟨fun hnone => ?_, fun t h => (exec_effect h).status⟩
  rcases hasEffect_or_refused i s with ⟨t, ht, heff⟩ | ⟨-, hmem⟩
  · rcases heff.status with hkept | ⟨-, hmem⟩
    · exact ⟨t, ht, hkept⟩
    · exact absurd (hnone ▸ hmem) List.not_mem_nil
  · exact absurd (hnone ▸ hmem) List.not_mem_nil

/-- The frame of what a failing access did before its fault. -/
theorem unchangedBut_before_fault (s : State) (m : Memory) (v : Vector Byte 16) (g : Grid) (d : Bool) (n : Nat) :
    UnchangedBut [.memory, .regs, .pixels, .dirty, .draws] s
      { s with mem := m, v := v, pix := g, dirty := d, draws := n } := by
  intro p hp
  cases p
  case memory | regs | pixels | dirty | draws => simp at hp
  all_goals simp [Part.same]

/-- The first address out of bounds fits in the record's 17 bits. -/
theorem raise_memFault_maddr_toNat (u s : State) (i : Instr) :
    (u.raise .memFault i (max s.i.toNat 4096)).err.maddr.toNat = max s.i.toNat 4096 := by
  change (BitVec.ofNat 17 (max s.i.toNat 4096)).toNat = _
  rw [BitVec.toNat_ofNat]
  omega

/-- Settles O20: of the effects only the two aborts halt a running state. -/
theorem abortRecordsTheFailingInstruction : Obligations.AbortRecordsTheFailingInstruction := by
  intro i s t hrun h hhalt
  cases exec_effect h
  case abort c hc hne =>
    refine ⟨rfl, rfl, fatal_iff_of_mem_failureCauses hc, cls_of_mem_failureCauses hc, fun _ => ⟨?_, ?_⟩,
      fun hmem => absurd hmem hne, ?_⟩
    · exact if_neg (Bool.eq_false_iff.mp (hasAddress_of_mem_failureCauses hc hne))
    · exact unchangedBut_raise s c i 0
    · exact (unchangedBut_raise s c i 0).mono (by decide)
  case fault m v g d n hc hm hg hi =>
    refine ⟨rfl, rfl, fatal_iff_of_mem_failureCauses hc, cls_of_mem_failureCauses hc, fun hne => absurd rfl hne,
      fun _ => ?_, ?_⟩
    · rw [raise_memFault_maddr_toNat]
      omega
    · exact ((unchangedBut_before_fault s m v g d n).trans (unchangedBut_raise _ _ _ _)).mono (by decide)
  all_goals exact absurd (hrun.symm.trans hhalt) (by decide)

/-- A running state that an instruction halts cleanly ran EXT or a caught self-jump. -/
theorem exec_cleanEnd_iff (hrun : s.run = .running) (h : exec i s = .next t) (hhalt : t.run = .halted) :
    t.cleanEnd ↔ i = .ext ∨ ∃ nnn, i = .jpAddr nnn ∧ s.catchesJump nnn := by
  constructor
  · rintro ⟨-, hclean⟩
    rcases (exec_effect h).status with ⟨hkept, -⟩ | ⟨-, hmem⟩
    · exact absurd (hrun.symm.trans (hkept.symm.trans hhalt)) (by decide)
    · rcases hclean with hexit | hjump
      · exact .inl (exit_mem_failureCauses (hexit ▸ hmem))
      · obtain ⟨nnn, rfl⟩ := endlessJump_mem_failureCauses (hjump ▸ hmem)
        refine .inr ⟨nnn, rfl, by_contra fun hno => ?_⟩
        rw [exec_jpAddr_of_not_caught hno] at h
        exact absurd (hrun.symm.trans ((Host.Outcome.next.inj h ▸ hhalt :))) (by decide)
  · rintro (rfl | ⟨nnn, rfl, hcaught⟩)
    · cases h
      exact ⟨rfl, .inl rfl⟩
    · rw [exec_jpAddr_of_caught hcaught] at h
      cases h
      exact ⟨rfl, .inr rfl⟩

/-- Settles O21: a failed fetch ends the run with a fault, and `IA` is the `PC` of the state before the cycle. -/
theorem cleanEndsAreExitAndSelfJump : Obligations.CleanEndsAreExitAndSelfJump := by
  intro s t hrun h hhalt
  rcases runCycle_cases s h with ⟨hh, -⟩ | ⟨-, a, hf, rfl⟩ | ⟨-, op, hf, hexec⟩
  · exact absurd (hrun.symm.trans hh) (by decide)
  · constructor
    · rintro ⟨-, hexit | hjump⟩
      · exact nomatch hexit
      · exact nomatch hjump
    · rintro ⟨op, hop, -⟩
      exact nomatch hf.symm.trans hop
  · have hia : s.skip.pc - 2 = s.pc := by simp
    rw [exec_cleanEnd_iff (s := s.skip) hrun hexec hhalt]
    simp only [State.catchesJump, hia, hf, Except.ok.injEq, exists_eq_left', State.skip_quirks]

end

end Sys2Proof.Machine
end

section
/-! SUPPORT. 10_state R10 to R24 and R260: the invariant of the machine, kept by every part of a step; then the proofs of the
statements about construction, the invariant, the parameters and the halted core. -/

namespace Sys2Proof.Machine

/-! The invariant under the operations of a step -/

namespace State.Inv

variable {s : State}

/-- The invariant speaks of neither the registers, `I`, `SP`, the quirks, `DIRTY`, the keys, `DT` nor the model's own two
fields. -/
theorem free (h : s.Inv) (v : Vector Byte 16) (w : Word) (n : Fin 17) (q : Quirks) (d : Bool) (k : Vector Bool 16)
    (dt : Byte) (draws : Nat) (turns : List Turn) :
    ({ s with v := v, i := w, sp := n, quirks := q, dirty := d, keys := k, dt := dt, draws := draws
              schedule := turns }).Inv :=
  ⟨h.mem, h.beep, h.ext, h.pixels, h.run, h.halted, h.pc, h.stack⟩

theorem withMem (h : s.Inv) {m : Memory} (hm : Memory.wf s.font m = true) : ({ s with mem := m }).Inv :=
  { h with mem := hm }

theorem withPix (h : s.Inv) {g : Grid} (hg : s.DarkOutside g) : ({ s with pix := g }).Inv :=
  { h with pixels := fun x y hout => hg x y hout (h.pixels x y hout) }

theorem withPc (h : s.Inv) {w : Word} (hw : w.toNat ≤ 0x10FE) : ({ s with pc := w }).Inv :=
  { h with pc := hw }

/-- The beeper as every write of `ST` leaves it. -/
theorem withSound (h : s.Inv) (b : Byte) : ({ s with st := b, beep := decide (0 < b.toNat) }).Inv :=
  { h with beep := rfl }

theorem abort (h : s.Inv) {c : Cause} (hc : c ≠ .none) (op ia : Word) (n : Nat) : (s.abort c op ia n).Inv :=
  { h with run := nofun, halted := fun _ => ⟨hc, rfl⟩ }

theorem pushed (h : s.Inv) (k : Fin 16) (n : Fin 17) (hpc : s.pc.toNat ≤ 0x1000) :
    ({ s with stack := s.stack.set k.val s.pc, sp := n }).Inv := by
  refine { h with stack := fun j => ?_ }
  simp only [Fin.getElem_fin, Vector.getElem_set]
  split
  · exact hpc
  · exact h.stack j

theorem setResolution (h : s.Inv) (ext : Bool) (hd : s.displaySchip = true) : (s.setResolution ext).Inv :=
  ⟨h.mem, h.beep, fun hno => absurd (hd.symm.trans hno) (by decide),
    fun _ _ => ({ s with extMode := ext }).pixel_setPixels_outside (Config.resizedPixel s.draws), h.run, h.halted, h.pc,
    h.stack⟩

end State.Inv

section
variable {s t : State} {i : Instr}

theorem pc_add_two_toNat {w : Word} (h : w.toNat ≤ 0x1000) : (w + 2#16).toNat = w.toNat + 2 := by
  bv_omega

theorem State.ia_toNat (s : State) (h : 2 ≤ s.pc.toNat) : s.ia.toNat = s.pc.toNat - 2 := by
  unfold State.ia
  bv_omega

/-- On entry to execution `PC` is `IA + 2`, where the fetch at `IA` succeeded. -/
theorem Effect.inv (h : Effect i s t) (hs : s.Inv) (hlo : 2 ≤ s.pc.toNat) (hhi : s.pc.toNat ≤ 0x1000) : t.Inv := by
  cases h
  case free v w dt n => exact hs.free v w s.sp s.quirks s.dirty s.keys dt n s.schedule
  case sound b => exact hs.withSound b
  case jump w n hw =>
    refine (hs.withPc ?_).free s.v s.i s.sp s.quirks s.dirty s.keys s.dt n s.schedule
    rcases hw with rfl | rfl | rfl | hw
    · omega
    · rw [pc_add_two_toNat hhi]
      omega
    · rw [s.ia_toNat hlo]
      omega
    · exact hw
  case call k w hw => exact (hs.pushed k k.succ hhi).withPc (by omega)
  case ret k =>
    have hk := hs.stack k
    exact (hs.withPc (w := s.stack[k]) (by omega)).free s.v s.i k.castSucc s.quirks s.dirty s.keys s.dt s.draws s.schedule
  case store m w hm => exact (hs.withMem (hm hs.mem)).free s.v w s.sp s.quirks s.dirty s.keys s.dt s.draws s.schedule
  case display g v hg => exact (hs.withPix hg).free v s.i s.sp s.quirks true s.keys s.dt s.draws s.schedule
  case resolution ext hd => exact (hs.setResolution ext hd).free s.v s.i s.sp s.quirks true s.keys s.dt _ s.schedule
  case abort c hc _ => exact hs.abort (ne_none_of_mem_failureCauses hc) _ _ _
  case fault m v g d n hc hm hg _ =>
    exact (((hs.withMem (hm hs.mem)).withPix hg).free v s.i s.sp s.quirks d s.keys s.dt n s.schedule).abort
      (ne_none_of_mem_failureCauses hc) _ _ _

theorem State.Inv.runCycle (hs : s.Inv) (h : runCycle s = .next t) : t.Inv := by
  rcases runCycle_cases s h with ⟨-, rfl⟩ | ⟨-, a, -, rfl⟩ | ⟨-, op, hf, hexec⟩
  · exact hs
  · exact hs.abort (by decide) _ _ _
  · have hpc : s.pc.toNat + 1 < 4096 := by
      by_contra hout
      rw [State.fetch, State.readWord_of_le (Nat.not_lt.mp hout)] at hf
      exact nomatch hf
    have hskip := pc_add_two_toNat (w := s.pc) (by omega)
    exact (exec_effect hexec).inv (hs.withPc (by omega)) (by rw [State.skip_pc]; omega) (by rw [State.skip_pc]; omega)

theorem State.Inv.resetCore (hs : s.Inv) : s.resetCore.Inv where
  mem := hs.mem
  beep := hs.beep
  ext := hs.ext
  pixels := hs.pixels
  run := fun _ => rfl
  halted := nofun
  pc := show Config.pcReset.toNat ≤ 0x10FE by decide
  stack := by simp

theorem State.Inv.resetFull (hs : s.Inv) : s.resetFull.Inv :=
  ((hs.resetCore.withMem (Memory.nil_wf _)).withPix fun x y _ _ => Grid.get_blank x y).free _ _ _ _ true _ _ _ _

theorem State.Inv.loadRom (hs : s.Inv) (bytes : List Byte) : (s.loadRom bytes).Inv := by
  unfold State.loadRom
  split
  · rw [State.writeBytes_frame]
    exact hs.withMem (s.writeBytes_wf _ _ hs.mem)
  · exact hs

theorem State.Inv.takeTurn {turn : Turn} (hs : s.Inv) (h : takeTurn turn s = .next t) : t.Inv := by
  cases turn
  case runCycle => exact hs.runCycle h
  all_goals obtain rfl := Host.Outcome.next.inj h
  case decrementTimers => exact (hs.withSound (countDown s.st)).free _ _ _ _ _ _ (countDown s.dt) _ _
  case updateKeys keys => exact hs.free _ _ _ _ _ keys _ _ _
  case present => exact hs.free _ _ _ _ false _ _ _ _
  case reset full =>
    cases full
    · exact hs.resetCore
    · exact hs.resetFull
  case loadRom bytes => exact hs.loadRom bytes

/-- Settles O17: the core's cycle and the other agents' turns keep the invariant, whatever is left of the schedule. -/
theorem everyStepKeepsTheInvariant : Obligations.EveryStepKeepsTheInvariant := by
  intro s t hs h
  obtain ⟨-, ⟨-, hcycle⟩ | ⟨turn, rest, -, hturn⟩⟩ := takeStep_cases s h
  · exact hs.runCycle hcycle
  · exact (hs.free s.v s.i s.sp s.quirks s.dirty s.keys s.dt s.draws rest).takeTurn hturn

end

/-! The parameters, and the halted core (R17, R26, R87) -/

section
variable {s t : State}

theorem loadRom_frame (s : State) (bytes : List Byte) : s.loadRom bytes = { s with mem := (s.loadRom bytes).mem } := by
  unfold State.loadRom
  split
  · exact State.writeBytes_frame _ _ _
  · rfl

/-- A cycle, like the instruction it runs, keeps the parameters. -/
theorem runCycle_parameters (h : runCycle s = .next t) : Part.parameters.same s t := by
  rcases runCycle_cases s h with ⟨-, rfl⟩ | ⟨-, a, -, rfl⟩ | ⟨-, op, -, hexec⟩
  · exact ⟨rfl, rfl, rfl⟩
  · exact ⟨rfl, rfl, rfl⟩
  · exact (exec_effect hexec).parameters

theorem takeTurn_parameters {turn : Turn} (h : takeTurn turn s = .next t) : Part.parameters.same s t := by
  cases turn
  case runCycle => exact runCycle_parameters h
  all_goals obtain rfl := Host.Outcome.next.inj h
  case loadRom bytes =>
    rw [loadRom_frame]
    exact ⟨rfl, rfl, rfl⟩
  case reset full => cases full <;> exact ⟨rfl, rfl, rfl⟩
  all_goals exact ⟨rfl, rfl, rfl⟩

/-- Settles O18: neither a cycle nor another agent's turn writes a parameter. -/
theorem noStepChangesTheParameters : Obligations.NoStepChangesTheParameters := by
  intro s t h
  obtain ⟨-, ⟨-, hcycle⟩ | ⟨turn, rest, -, hturn⟩⟩ := takeStep_cases s h
  · exact runCycle_parameters hcycle
  · exact takeTurn_parameters (s := { s with schedule := rest }) hturn

theorem runCycle_of_halted (h : s.run = .halted) : runCycle s = .next s := by
  rw [runCycle, h]

/-- A turn other than a reset leaves a halted core's status. -/
theorem takeTurn_status_of_halted {turn : Turn} (hs : s.run = .halted) (h : takeTurn turn s = .next t)
    (hno : ∀ full, turn ≠ .reset full) : Part.status.same s t := by
  cases turn
  case runCycle =>
    rw [takeTurn, runCycle_of_halted hs] at h
    exact Host.Outcome.next.inj h ▸ ⟨rfl, rfl⟩
  all_goals obtain rfl := Host.Outcome.next.inj h
  case loadRom bytes =>
    rw [loadRom_frame]
    exact ⟨rfl, rfl⟩
  case reset full => exact absurd rfl (hno full)
  all_goals exact ⟨rfl, rfl⟩

/-- Settles O13: the cycle of a halted core answers the state itself, and no turn but a reset writes `RUN` or `ERR`. -/
theorem haltedCoreDoesNothingUntilReset : Obligations.HaltedCoreDoesNothingUntilReset := by
  intro s hs
  refine ⟨runCycle_of_halted hs, fun hcls => by rw [State.result, hs, hcls], fun hcls => by rw [State.result, hs, hcls],
    fun turn t h hno => ?_⟩
  obtain ⟨hrun, herr⟩ := takeTurn_status_of_halted hs h hno
  exact ⟨hrun.trans hs, herr⟩

end

/-! Whose turn it is (R80, R84, 00_scope R5) -/

/-- Settles O14: in a legal configuration the step is the schedule's choice. -/
theorem stepTakesTheFirstScheduledTurn : Obligations.StepTakesTheFirstScheduledTurn := by
  intro s hq
  exact ⟨fun h => by rw [step, takeStep, if_pos hq, h], fun turn rest h => by rw [step, takeStep, if_pos hq, h]⟩

/-- Settles O11: the core's turn, scheduled or not, is a cycle whose fetch succeeds. -/
theorem stepRunsTheDecodedInstruction : Obligations.StepRunsTheDecodedInstruction := by
  intro s hi lo hq hrun hhi hlo
  have hfetch := State.readWord_of_readByte? hhi hlo
  obtain ⟨hcore, hturn⟩ := stepTakesTheFirstScheduledTurn s hq
  refine ⟨fun h => ?_, fun rest h => ?_⟩
  · exact (hcore h).trans (runCycle_of_fetch_ok hrun hfetch)
  · exact (hturn _ rest h).trans (runCycle_of_fetch_ok (s := { s with schedule := rest }) hrun hfetch)

/-! Construction (R260) -/

/-- A memory that lists nothing reads as the font. -/
theorem readByte?_of_mem_nil {s : State} (hm : s.mem = []) {a : Nat} (ha : a < 4096) :
    s.readByte? a = some (s.font.byteAt a) := by
  rw [State.readByte?_of_lt ha, hm, Memory.get]

theorem Font.byteAt_glyph (f : Font) (k : Fin 80) : f.byteAt (f.base.val + k.val) = f.glyphs[k] := by
  rw [Font.byteAt, if_pos ⟨Nat.le_add_right _ _, Nat.add_lt_add_left k.isLt _⟩, Nat.add_sub_cancel_left]
  simp

theorem Font.byteAt_outside (f : Font) {a : Nat} (h : a < f.base.val ∨ f.base.val + 80 ≤ a) : f.byteAt a = 0 := by
  rw [Font.byteAt, if_neg (by omega)]

theorem readByte?_glyph_of_mem_nil {s : State} (hm : s.mem = []) (k : Fin 80) :
    s.readByte? (s.font.base.val + k.val) = some (s.font.glyphs[k]) := by
  rw [readByte?_of_mem_nil hm (by omega), Font.byteAt_glyph]

theorem readByte?_outside_font_of_mem_nil {s : State} (hm : s.mem = []) {a : Nat} (ha : a < 4096)
    (h : a < s.font.base.val ∨ s.font.base.val + 80 ≤ a) : s.readByte? a = some 0 := by
  rw [readByte?_of_mem_nil hm ha, Font.byteAt_outside _ h]

theorem replicate_zero_getElem {n : Nat} (k : Fin 16) : (Vector.replicate 16 (0 : BitVec n))[k] = 0 := by
  simp

/-- Settles O15: the memory lists nothing, so it reads as the font; every other item is a field of `construct`. -/
theorem constructionLeavesTheStatedValues : Obligations.ConstructionLeavesTheStatedValues := by
  intro q f e s
  exact ⟨replicate_zero_getElem, rfl, rfl, replicate_zero_getElem, rfl, rfl, rfl, readByte?_glyph_of_mem_nil (s := s) rfl,
    fun _ => readByte?_outside_font_of_mem_nil (s := s) rfl, Grid.get_blank, rfl, rfl, rfl, rfl, rfl, rfl, rfl, rfl, rfl⟩

/-- Settles O16, clause by clause. -/
theorem constructionMeetsTheInvariant : Obligations.ConstructionMeetsTheInvariant := fun q f e =>
  { mem := Memory.nil_wf f
    beep := rfl
    ext := fun _ => rfl
    pixels := fun x y _ => Grid.get_blank x y
    run := fun _ => rfl
    halted := nofun
    pc := show Config.pcReset.toNat ≤ 0x10FE by decide
    stack := fun k => by rw [State.construct, replicate_zero_getElem]; decide }

/-! The other agents' turns (50_interfaces R204, R206, R208, 70_reset_and_hazards R261 to R263) -/

theorem countDown_toNat (b : Byte) : (countDown b).toNat = b.toNat - 1 := by
  unfold countDown
  split <;> bv_omega

theorem unchangedBut_updateKeys (s : State) (keys : Vector Bool 16) : UnchangedBut [.keys] s (s.updateKeys keys) := by
  intro p hp
  cases p
  case keys => simp at hp
  all_goals simp [Part.same, State.reg, State.readByte?, State.pixel]

theorem unchangedBut_present (s : State) : UnchangedBut [.dirty] s s.present := by
  intro p hp
  cases p
  case dirty => simp at hp
  all_goals simp [Part.same, State.reg, State.readByte?, State.pixel]

theorem unchangedBut_resetCore (s : State) :
    UnchangedBut [.regs, .index, .pc, .stack, .status] s s.resetCore := by
  intro p hp
  cases p
  case regs | index | pc | stack | status => simp at hp
  all_goals simp [Part.same, State.readByte?, State.pixel]

/-- Settles O55: each timer counts down on its own, and the beeper is recomputed from `ST`. -/
theorem tickCountsBothTimersDown : Obligations.TickCountsBothTimersDown := fun s =>
  ⟨_, rfl, countDown_toNat s.dt, countDown_toNat s.st, decide_eq_true_iff,
    (unchangedBut_setDelayTimer s (countDown s.dt)).trans (unchangedBut_setSoundTimer _ (countDown s.st))⟩

/-- Settles O58: the refresh writes `KEYS`, the consumer `DIRTY`. -/
theorem keyRefreshAndConsumerTouchOnlyTheirOwn : Obligations.KeyRefreshAndConsumerTouchOnlyTheirOwn := fun s keys =>
  ⟨⟨_, rfl, s.updateKeys_keys keys, unchangedBut_updateKeys s keys⟩, ⟨_, rfl, s.present_dirty, unchangedBut_present s⟩⟩

/-- Settles O56: the full reset is the core's reset, an empty memory list and a blank display. -/
theorem resetsRestartTheCore : Obligations.ResetsRestartTheCore := by
  intro s full
  cases full
  · exact ⟨_, rfl, replicate_zero_getElem, rfl, rfl, replicate_zero_getElem, rfl, rfl, rfl,
      fun _ => unchangedBut_resetCore s, nofun⟩
  · refine ⟨_, rfl, replicate_zero_getElem, rfl, rfl, replicate_zero_getElem, rfl, rfl, rfl, nofun,
      fun _ => ⟨?_, ?_, ?_, rfl, ?_⟩⟩
    · exact readByte?_glyph_of_mem_nil (s := s.resetFull) rfl
    · exact fun _ => readByte?_outside_font_of_mem_nil (s := s.resetFull) rfl
    · exact s.pixel_resetFull
    · exact ((unchangedBut_resetCore s).trans (unchangedBut_memory _ [])).trans
        (unchangedBut_pixels_dirty _ Grid.blank true)

end Sys2Proof.Machine
end

section
/-! SUPPORT. 41_control_flow R104 and R107, 42_load_alu R131, 43_index_memory R141, 45_keypad_timers_system R180 to R182 and
R186, 95_test_vectors S5: the proofs of the statements about CALL followed by RET and about seven single instructions. -/

namespace Sys2Proof.Machine

/-- Settles O28: RET pops the entry that CALL pushed, `PC` at the time of the CALL. -/
theorem callThenRetReturnsAfterTheCall : Obligations.CallThenRetReturnsAfterTheCall := by
  intro nnn s w hsp
  obtain ⟨k, hk⟩ : ∃ k : Fin 16, s.sp.val = k.val := ⟨⟨s.sp.val, hsp⟩, rfl⟩
  have hspk : k.castSucc = s.sp := Fin.ext hk.symm
  refine ⟨_, _, exec_callAddr_of_free nnn k hk, exec_ret_of_pos k rfl, ?popped, hspk, fun j hj => ?others, ?frame⟩
  case popped => exact Vector.getElem_set_self k.isLt
  case others => exact Vector.getElem_set_ne k.isLt j.isLt fun e => hj (e.symm.trans hk.symm)
  case frame =>
    intro p hp
    cases p
    case stack => simp at hp
    all_goals simp [Part.same, State.reg, State.readByte?, State.pixel]

/-- Settles O30: SNE Vx,kk is a skip on its comparison. -/
theorem sneImmediateSkipsWhenDifferent : Obligations.SneImmediateSkipsWhenDifferent :=
  fun _ _ _ => exists_next_of_exec_skipIf rfl (skip_distance_of_bne _ _)

theorem addrX_val (nnn : BitVec 12) : (addrX nnn).val = nnn.toNat / 256 := by
  have hval : (addrX nnn).val = nnn.toNat / 256 % 16 := by simp [addrX, Nat.shiftRight_eq_div_pow]
  omega

/-- Settles O31: the register is the one the quirk selects, and the sum is below 65536. -/
theorem jpV0AddsTheSelectedRegister : Obligations.JpV0AddsTheSelectedRegister := by
  intro nnn k s hk
  obtain rfl : k = addrX nnn := Fin.ext (hk.trans (addrX_val nnn).symm)
  refine ⟨_, rfl, (jpV0_target_toNat nnn (s.jumpOffset nnn)).trans ?_, unchangedBut_setPc s _⟩
  rw [State.jumpOffset, apply_ite BitVec.toNat]

/-- Settles O37: the byte drawn is the state's `randomByte`, of which only the mask is known. -/
theorem rndMasksAFreshByte : Obligations.RndMasksAFreshByte := by
  intro x kk s
  have hreg : ∀ j, ((s.setReg x (s.randomByte &&& kk)).drawn).reg j = if j = x then s.randomByte &&& kk else s.reg j :=
    fun j => State.reg_setReg s x j _
  have hx := (hreg x).trans (if_pos rfl)
  refine ⟨_, rfl, rfl, ⟨s.randomByte, hreg⟩, fun k hk => ?_, ?_, (unchangedBut_regs s _).trans (unchangedBut_draws _ _)⟩
  · rw [hx, BitVec.getLsbD_and, hk, Bool.and_false]
  · rw [hx, BitVec.toNat_and]
    exact Nat.and_le_right

/-- Settles O39: the sum is a write of `I`. -/
theorem addToIndexWritesOnlyI : Obligations.AddToIndexWritesOnlyI := by
  intro x s
  refine exists_next_of_exec_setI rfl ?_
  have hb : (zextByte (s.reg x)).toNat = (s.reg x).toNat := BitVec.toNat_setWidth_of_le (by decide)
  rw [BitVec.toNat_add, hb]

/-- Settles O53: `E_EXIT` has class halt and is a cause of a clean end. -/
theorem extHaltsTheCore : Obligations.ExtHaltsTheCore := fun _ =>
  ⟨_, rfl, State.raise_eq_abortedWith rfl .ext 0, rfl, rfl, .inl rfl⟩

/-! The keypad (R180 to R182) -/

section
variable {s : State}

theorem State.keyDown_of_key {b : Byte} {k : Fin 16} (h : b.toNat = k.val) : s.keyDown b = s.keys[k] := by
  simp [State.keyDown, h]

theorem State.afterKeyDown_of_key {b : Byte} {k : Fin 16} (h : b.toNat = k.val) : s.afterKeyDown b = s :=
  if_pos (h ▸ k.isLt)

theorem unchangedBut_afterKeyDown (s : State) (b : Byte) : UnchangedBut [.draws] s (s.afterKeyDown b) :=
  s.afterKeyDown_frame b ▸ unchangedBut_draws s _

theorem State.afterKeyDown_pc (s : State) (b : Byte) : (s.afterKeyDown b).pc = s.pc :=
  unchangedBut_afterKeyDown s b .pc (by decide)

theorem unchangedBut_afterAnyKey (s : State) : UnchangedBut [.draws] s s.afterAnyKey :=
  s.afterAnyKey_frame ▸ unchangedBut_draws s _

theorem State.skipIf_pc (s : State) (c : Bool) : (s.skipIf c).pc = if c then s.pc + 2 else s.pc :=
  congrArg State.pc (s.skipIf_eq c)

theorem State.skipIf_pc_or (s : State) (c : Bool) : (s.skipIf c).pc = s.pc ∨ (s.skipIf c).pc = s.pc + 2 := by
  rw [State.skipIf_pc]
  cases c
  · exact .inl rfl
  · exact .inr rfl

/-- A skip on the answer to `KeyDown`, or on its opposite, changes `PC` and at most the draws. -/
theorem unchangedBut_keySkip (s : State) (b : Byte) (c : Bool) :
    UnchangedBut [.pc, .draws] s ((s.afterKeyDown b).skipIf c) :=
  ((unchangedBut_afterKeyDown s b).trans (unchangedBut_skipIf _ c)).mono (by decide)

end

/-- Settles O50: for a key of the keypad the answer is its state and nothing is drawn; SKNP skips on the opposite. -/
theorem keySkipsTestTheKeyState : Obligations.KeySkipsTestTheKeyState := by
  intro x s
  refine ⟨_, _, rfl, rfl, fun k hk => ?key, fun _ => ?beyond, unchangedBut_keySkip s _ _, unchangedBut_keySkip s _ _⟩
  case key =>
    rw [State.afterKeyDown_of_key hk, State.keyDown_of_key hk]
    refine ⟨State.skipIf_pc s _, ?_, unchangedBut_skipIf s _, unchangedBut_skipIf s _⟩
    rw [State.skipIf_pc]
    cases s.keys[k] <;> rfl
  case beyond =>
    have hor := (s.afterKeyDown (s.reg x)).skipIf_pc_or
    rw [State.afterKeyDown_pc] at hor
    exact ⟨hor _, hor _⟩

/-- Settles O51: `AnyKey` answers a key that is down, or none exactly when none is. -/
theorem keyWaitLoadsADownKeyOrRepeats : Obligations.KeyWaitLoadsADownKeyOrRepeats := by
  intro x s
  rcases h : s.anyKey with _ | k
  · have hup := s.anyKey_none.mp h
    refine ⟨_, exec_ldVxK_of_none x h, fun ⟨k, hk⟩ => ?_, fun _ => ⟨rfl, unchangedBut_setPc s _⟩⟩
    exact absurd ((hup k).symm.trans hk) Bool.false_ne_true
  · have hdown := s.anyKey_some h
    refine ⟨_, exec_ldVxK_of_some x h, fun _ => ⟨⟨k, hdown, fun j => ?_⟩, ?_⟩, fun hup => ?_⟩
    · rw [State.reg_setReg, unchangedBut_afterAnyKey s .regs (by decide) j]
    · exact ((unchangedBut_afterAnyKey s).trans (unchangedBut_regs _ _)).mono (by decide)
    · exact absurd ((hup k).symm.trans hdown) Bool.false_ne_true

end Sys2Proof.Machine
end

section
/-! SUPPORT. What no instruction reads: the `vBlank` flag (10_state R17), `DIRTY` (50_interfaces R204), `ST` and `BEEP`
(10_state R24). One lemma runs an instruction with all four changed; each of the three statements changes some of them. -/

namespace Sys2Proof.Machine

/-- Values for the four items. -/
structure Veil where
  vBlank : Bool
  dirty  : Bool
  st     : Byte
  beep   : Bool

/-- The state with the four items changed. -/
def State.veil (s : State) (a : Veil) : State :=
  { s with quirks := { s.quirks with vBlank := a.vBlank }, dirty := a.dirty, st := a.st, beep := a.beep }

/-- How the four items end: `vBlank` is kept, and `DIRTY` and the sound each are kept by the run from `s` to `t` and by the
run under the veil, or written alike by both. -/
structure Veil.Follows (s t : State) (a b : Veil) : Prop where
  vBlank : b.vBlank = a.vBlank
  dirty  : (t.dirty = s.dirty ∧ b.dirty = a.dirty) ∨ b.dirty = t.dirty
  sound  : ((t.st = s.st ∧ b.st = a.st) ∧ (t.beep = s.beep ∧ b.beep = a.beep)) ∨ (b.st = t.st ∧ b.beep = t.beep)

/-- The instruction does the same under the veil. -/
def Blind (i : Instr) (s : State) (a : Veil) : Prop :=
  ∃ t b, exec i s = .next t ∧ exec i (s.veil a) = .next (t.veil b) ∧ Veil.Follows s t a b

section
variable {i : Instr} {s t : State} {a : Veil} {x : RegIdx}

/-- An instruction that writes none of the four. -/
theorem blind_of_kept (h : exec i s = .next t) (h' : exec i (s.veil a) = .next (t.veil a)) (hd : t.dirty = s.dirty)
    (hst : t.st = s.st) (hb : t.beep = s.beep) : Blind i s a :=
  ⟨t, a, h, h', rfl, .inl ⟨hd, rfl⟩, .inl ⟨⟨hst, rfl⟩, hb, rfl⟩⟩

/-- An instruction that writes `DIRTY`. -/
theorem blind_of_dirty (h : exec i s = .next t) (h' : exec i (s.veil a) = .next (t.veil { a with dirty := t.dirty }))
    (hst : t.st = s.st) (hb : t.beep = s.beep) : Blind i s a :=
  ⟨t, _, h, h', rfl, .inr rfl, .inl ⟨⟨hst, rfl⟩, hb, rfl⟩⟩

theorem skipIf_veil (s : State) (a : Veil) (c : Bool) : (s.veil a).skipIf c = (s.skipIf c).veil a := by
  cases c <;> rfl

theorem setRegLogic_veil (s : State) (a : Veil) (x : RegIdx) (r : Byte) :
    (s.veil a).setRegLogic x r = (s.setRegLogic x r).veil a :=
  (apply_ite (State.veil · a) (s.quirks.vfReset = true) (s.setRegFlag x r 0#8) (s.setReg x r)).symm

theorem afterKeyDown_veil (s : State) (a : Veil) (k : Byte) : (s.veil a).afterKeyDown k = (s.afterKeyDown k).veil a :=
  (apply_ite (State.veil · a) (k.toNat < 16) s s.drawn).symm

theorem afterAnyKey_veil (s : State) (a : Veil) : (s.veil a).afterAnyKey = s.afterAnyKey.veil a :=
  (apply_ite (State.veil · a) (1 < s.downKeys.length) s.drawn s).symm

theorem writeBytes_veil (s : State) (a : Veil) (n : Nat) (bs : List Byte) :
    (s.veil a).writeBytes n bs = ((s.writeBytes n bs).1.veil a, (s.writeBytes n bs).2) := by
  induction bs generalizing s n with
  | nil => rfl
  | cons b bs ih =>
    by_cases h : n < 4096
    · rw [State.writeBytes, State.writeBytes, State.writeByte?_of_lt b h, State.writeByte?_of_lt b h]
      exact ih { s with mem := Memory.put s.font s.mem n b } (n + 1)
    · rw [State.writeBytes, State.writeBytes, State.writeByte?_of_le b (Nat.not_lt.mp h),
        State.writeByte?_of_le b (Nat.not_lt.mp h)]

theorem loadRegs_veil (s : State) (a : Veil) (n k m : Nat) :
    (s.veil a).loadRegs n k m = ((s.loadRegs n k m).1.veil a, (s.loadRegs n k m).2) := by
  induction m generalizing s k with
  | zero => rfl
  | succ m ih =>
    by_cases h : n + k < 4096
    · rw [State.loadRegs, State.loadRegs, State.readByte?_of_lt h, State.readByte?_of_lt h]
      exact ih (s.setReg (Fin.ofNat 16 k) (Memory.get s.font s.mem (n + k))) (k + 1)
    · rw [State.loadRegs, State.loadRegs, State.readByte?_of_le (Nat.not_lt.mp h), State.readByte?_of_le (Nat.not_lt.mp h)]

theorem drawRows_veil (s : State) (a : Veil) (b : Blit) (y0 r n : Nat) (acc : Grid × Bool) :
    (s.veil a).drawRows b y0 r n acc = s.drawRows b y0 r n acc := by
  induction n generalizing r acc with
  | zero => rfl
  | succ n ih =>
    rw [State.drawRows, State.drawRows, show (s.veil a).readByte? ((s.veil a).ea r) = s.readByte? (s.ea r) from rfl]
    cases s.readByte? (s.ea r)
    case none => rfl
    case some row => exact ih (r + 1) _

theorem drawSprite_veil (s : State) (a : Veil) (x y : RegIdx) (n : Nat) :
    (s.veil a).drawSprite x y n = s.drawSprite x y n :=
  drawRows_veil s a _ _ _ _ _

theorem endTransfer_veil (i : Instr) (a : Veil) (r : State × Option Nat) (f : State → State)
    (hf : ∀ u, f (u.veil a) = (f u).veil a) : endTransfer i (r.1.veil a, r.2) f = (endTransfer i r f).veil a := by
  obtain ⟨u, _ | n⟩ := r
  · exact hf u
  · rfl

/-! One lemma for each instruction that branches or accesses the memory -/

theorem blind_ret (s : State) (a : Veil) : Blind .ret s a := by
  rcases Fin.eq_zero_or_eq_succ s.sp with h | ⟨k, h⟩
  · have hsp : s.sp.val = 0 := congrArg Fin.val h
    exact blind_of_kept (exec_ret_of_empty hsp) (exec_ret_of_empty (s := s.veil a) hsp) rfl rfl rfl
  · have hsp : s.sp.val = k.val + 1 := congrArg Fin.val h
    exact blind_of_kept (exec_ret_of_pos k hsp) (exec_ret_of_pos (s := s.veil a) k hsp) rfl rfl rfl

theorem blind_callAddr (nnn : BitVec 12) (s : State) (a : Veil) : Blind (.callAddr nnn) s a := by
  rcases Fin.eq_castSucc_or_eq_last s.sp with ⟨k, h⟩ | h
  · have hsp : s.sp.val = k.val := congrArg Fin.val h
    exact blind_of_kept (exec_callAddr_of_free nnn k hsp) (exec_callAddr_of_free (s := s.veil a) nnn k hsp) rfl rfl rfl
  · have hsp : s.sp.val = 16 := congrArg Fin.val h
    exact blind_of_kept (exec_callAddr_of_full nnn hsp) (exec_callAddr_of_full (s := s.veil a) nnn hsp) rfl rfl rfl

theorem blind_jpAddr (nnn : BitVec 12) (s : State) (a : Veil) : Blind (.jpAddr nnn) s a := by
  by_cases h : s.catchesJump nnn
  · exact blind_of_kept (exec_jpAddr_of_caught h) (exec_jpAddr_of_caught (s := s.veil a) h) rfl rfl rfl
  · exact blind_of_kept (exec_jpAddr_of_not_caught h) (exec_jpAddr_of_not_caught (s := s.veil a) h) rfl rfl rfl

theorem blind_setRegLogic {r : Byte} (h : exec i s = .next (s.setRegLogic x r))
    (h' : exec i (s.veil a) = .next ((s.veil a).setRegLogic x r)) : Blind i s a := by
  rw [setRegLogic_veil] at h'
  refine blind_of_kept h h' ?_ ?_ ?_ <;> rw [State.setRegLogic_frame]

theorem blind_skipIf {c : Bool} (h : exec i s = .next (s.skipIf c)) (h' : exec i (s.veil a) = .next ((s.veil a).skipIf c)) :
    Blind i s a := by
  rw [skipIf_veil] at h'
  refine blind_of_kept h h' ?_ ?_ ?_ <;> rw [State.skipIf_eq] <;> rfl

theorem blind_keySkip {k : Byte} {c : Bool} (h : exec i s = .next ((s.afterKeyDown k).skipIf c))
    (h' : exec i (s.veil a) = .next (((s.veil a).afterKeyDown k).skipIf c)) : Blind i s a := by
  rw [afterKeyDown_veil, skipIf_veil] at h'
  refine blind_of_kept h h' ?_ ?_ ?_ <;> rw [State.skipIf_eq, State.afterKeyDown_frame] <;> rfl

theorem blind_ldVxK (x : RegIdx) (s : State) (a : Veil) : Blind (.ldVxK x) s a := by
  rcases h : s.anyKey with _ | k
  · exact blind_of_kept (exec_ldVxK_of_none x h) (exec_ldVxK_of_none (s := s.veil a) x h) rfl rfl rfl
  · have h' := exec_ldVxK_of_some (s := s.veil a) x h
    rw [afterAnyKey_veil] at h'
    refine blind_of_kept (exec_ldVxK_of_some x h) h' ?_ ?_ ?_ <;> rw [State.afterAnyKey_frame] <;> rfl

theorem blind_withDisplay {f : State → State} (h : ∀ u : State, exec i u = .next (u.withDisplay i f))
    (hf : f (s.veil a) = (f s).veil { a with dirty := (f s).dirty }) (hst : (f s).st = s.st) (hb : (f s).beep = s.beep) :
    Blind i s a := by
  have hs := h s
  have ha := h (s.veil a)
  cases hd : s.displaySchip
  · rw [State.withDisplay_of_false hd] at hs
    rw [State.withDisplay_of_false (s := s.veil a) hd] at ha
    exact blind_of_kept hs ha rfl rfl rfl
  · rw [State.withDisplay_of_true hd] at hs
    rw [State.withDisplay_of_true (s := s.veil a) hd, hf] at ha
    exact blind_of_dirty hs ha hst hb

theorem blind_drw (x y : RegIdx) (n : Fin 16) (s : State) (a : Veil) : Blind (.drw x y n) s a := by
  by_cases h : n.val = 0 ∨ s.i.toNat + n.val ≤ 4096
  · have h' := exec_drw_of_fits (s := s.veil a) (x := x) (y := y) h
    rw [drawSprite_veil] at h'
    exact blind_of_dirty (exec_drw_of_fits h) h' rfl rfl
  · have h' := exec_drw_of_not_fits (s := s.veil a) (x := x) (y := y) h
    rw [drawSprite_veil] at h'
    exact blind_of_dirty (exec_drw_of_not_fits h) h' rfl rfl

/-- An access of several bytes that does the same under the veil. -/
theorem blind_endTransfer {r : State × Option Nat} {f : State → State}
    (h : exec i s = .next (endTransfer i r f)) (h' : exec i (s.veil a) = .next (endTransfer i (r.1.veil a, r.2) f))
    (hf : ∀ u, f (u.veil a) = (f u).veil a) (hr : UnchangedBut [.regs, .memory] s r.1)
    (hkept : ∀ u, (f u).dirty = u.dirty ∧ (f u).st = u.st ∧ (f u).beep = u.beep) : Blind i s a := by
  rw [endTransfer_veil i a r f hf] at h'
  have hd := hr .dirty (by decide)
  obtain ⟨hst, hb⟩ := hr .sound (by decide)
  obtain ⟨u, _ | n⟩ := r
  · obtain ⟨hfd, hfst, hfb⟩ := hkept u
    exact blind_of_kept h h' (hfd.trans hd) (hfst.trans hst) (hfb.trans hb)
  · exact blind_of_kept h h' hd hst hb

theorem blind_ldBVx (x : RegIdx) (s : State) (a : Veil) : Blind (.ldBVx x) s a := by
  have h' : exec (.ldBVx x) (s.veil a) =
      .next (endTransfer (.ldBVx x) ((s.veil a).writeBytes (s.ea 0) (bcdDigits (s.reg x))) id) := rfl
  rw [writeBytes_veil] at h'
  exact blind_endTransfer rfl h' (fun _ => rfl) ((unchangedBut_writeBytes _ _ _).mono (by decide))
    fun _ => ⟨rfl, rfl, rfl⟩

theorem blind_ldMemVx {w : Word} (hw : indexAfterBlock s.quirks s.i x = some w) : Blind (.ldMemVx x) s a := by
  have h' := exec_ldMemVx (s := s.veil a) hw
  rw [writeBytes_veil] at h'
  exact blind_endTransfer (exec_ldMemVx hw) h' (fun _ => rfl) ((unchangedBut_writeBytes _ _ _).mono (by decide))
    fun _ => ⟨rfl, rfl, rfl⟩

theorem blind_ldVxMem {w : Word} (hw : indexAfterBlock s.quirks s.i x = some w) : Blind (.ldVxMem x) s a := by
  have h' := exec_ldVxMem (s := s.veil a) hw
  rw [loadRegs_veil] at h'
  exact blind_endTransfer (exec_ldVxMem hw) h' (fun _ => rfl) ((unchangedBut_loadRegs _ _ _ _).mono (by decide))
    fun _ => ⟨rfl, rfl, rfl⟩

end

theorem indexAfterBlock_of_next {i : Instr} {s t : State} {x : RegIdx} (hi : i = .ldMemVx x ∨ i = .ldVxMem x)
    (h : exec i s = .next t) : ∃ w, indexAfterBlock s.quirks s.i x = some w := by
  rcases hw : indexAfterBlock s.quirks s.i x with _ | w
  · exact nomatch h.symm.trans (exec_block_of_none hi hw)
  · exact ⟨w, rfl⟩

/-- An instruction that answers a next state does the same under the veil. -/
theorem blind_of_next {i : Instr} {s t : State} (h : exec i s = .next t) (a : Veil) : Blind i s a := by
  cases i
  case ldImm | addImm | ldReg | addReg | subReg | shrReg | subnReg | shlReg | rnd | ldVxDT | ldDTVx | ldIAddr | addIVx |
      ldFVx | jpV0 | ext | illegal =>
    exact blind_of_kept rfl rfl rfl rfl rfl
  case orReg | andReg | xorReg => exact blind_setRegLogic rfl rfl
  case seImm | sneImm | seReg | sneReg => exact blind_skipIf rfl rfl
  case skp | sknp => exact blind_keySkip rfl rfl
  case jpAddr nnn => exact blind_jpAddr nnn s a
  case callAddr nnn => exact blind_callAddr nnn s a
  case ret => exact blind_ret s a
  case ldVxK x => exact blind_ldVxK x s a
  case ldSTVx x =>
    exact ⟨_, { a with st := s.reg x, beep := decide (0 < (s.reg x).toNat) }, rfl, rfl, rfl, .inl ⟨rfl, rfl⟩,
      .inr ⟨rfl, rfl⟩⟩
  case cls => exact blind_of_dirty rfl rfl rfl rfl
  case drw x y n => exact blind_drw x y n s a
  case scr | scl | dsv | hrs | lrs => exact blind_withDisplay (fun _ => rfl) rfl rfl rfl
  case ldBVx x => exact blind_ldBVx x s a
  case ldMemVx x =>
    obtain ⟨w, hw⟩ := indexAfterBlock_of_next (.inl rfl) h
    exact blind_ldMemVx hw
  case ldVxMem x =>
    obtain ⟨w, hw⟩ := indexAfterBlock_of_next (.inr rfl) h
    exact blind_ldVxMem hw

/-- The same, for the state answered. -/
theorem exec_veil {i : Instr} {s t : State} (h : exec i s = .next t) (a : Veil) :
    ∃ b, exec i (s.veil a) = .next (t.veil b) ∧ Veil.Follows s t a b := by
  obtain ⟨t', b, ht', hb, hfollows⟩ := blind_of_next h a
  obtain rfl := Host.Outcome.next.inj (ht'.symm.trans h)
  exact ⟨b, hb, hfollows⟩

section
variable {s t : State} {a b : Veil}

/-- Where the veil leaves `DIRTY` as it is, the two runs end with the same. -/
theorem Veil.Follows.dirty_eq (h : Veil.Follows s t a b) (ha : a.dirty = s.dirty) : b.dirty = t.dirty := by
  rcases h.dirty with ⟨ht, hb⟩ | hb
  · rw [hb, ha, ht]
  · exact hb

theorem Veil.Follows.sound_eq (h : Veil.Follows s t a b) (hst : a.st = s.st) (hbeep : a.beep = s.beep) :
    b.st = t.st ∧ b.beep = t.beep := by
  rcases h.sound with ⟨⟨ht, hb⟩, ht', hb'⟩ | hb
  · exact ⟨by rw [hb, hst, ht], by rw [hb', hbeep, ht']⟩
  · exact hb

end

/-- Settles O22: a veil that changes the flag alone. -/
theorem vBlankQuirkHasNoEffect : Obligations.VBlankQuirkHasNoEffect := by
  intro i s t v h
  obtain ⟨⟨_, _, _, _⟩, hu, hf⟩ := exec_veil h ⟨v, s.dirty, s.st, s.beep⟩
  obtain ⟨rfl, rfl⟩ := hf.sound_eq rfl rfl
  obtain rfl := hf.dirty_eq rfl
  obtain rfl := hf.vBlank
  exact hu

/-- The veil of a state's own values: no instruction writes the quirks. -/
theorem veil_own_eq_self {i : Instr} {s t : State} (h : exec i s = .next t) :
    t.veil ⟨s.quirks.vBlank, t.dirty, t.st, t.beep⟩ = t := by
  rw [← (exec_effect h).parameters.1]
  rfl

/-- Settles O23: a veil that changes `DIRTY` alone. -/
theorem dirtyFlagIsInvisibleToPrograms : Obligations.DirtyFlagIsInvisibleToPrograms := by
  intro i s t d h
  obtain ⟨⟨_, _, _, _⟩, hu, hf⟩ := exec_veil h ⟨s.quirks.vBlank, d, s.st, s.beep⟩
  obtain ⟨rfl, rfl⟩ := hf.sound_eq rfl rfl
  obtain rfl := hf.vBlank
  exact ⟨_, hu, veil_own_eq_self h⟩

/-- Settles O24: a veil that changes `ST` and `BEEP` alone. -/
theorem soundTimerIsNeverRead : Obligations.SoundTimerIsNeverRead := by
  intro i s t n d h
  obtain ⟨⟨_, _, _, _⟩, hu, hf⟩ := exec_veil h ⟨s.quirks.vBlank, s.dirty, n, d⟩
  obtain rfl := hf.dirty_eq rfl
  obtain rfl := hf.vBlank
  exact ⟨_, hu, veil_own_eq_self h⟩

end Sys2Proof.Machine
end
